-- ==== Sys2Proof/Word.lean ====
section
/-! DEFINITION. The words of the part: bytes, the bit fields of its packets and records, its wrapping counters and device time. -/

namespace Sys2Proof

/-- One byte of a packet or of a management record (spec/12, R172). -/
abbrev Byte := BitVec 8

/-- A source number, 0 to 63 (spec/00_scope, section 7). -/
abbrev SourceNo := BitVec 6

/-- A domain number, 0 to 3. -/
abbrev DomainNo := BitVec 2

/-- A stream number within a domain, 0 to 1023. -/
abbrev StreamNo := BitVec 10

/-- An index of the stream store, 0 to 2,047. -/
abbrev StreamIndex := BitVec 11

/-- A gate number, 0 to 255. -/
abbrev GateNo := BitVec 8

/-- A slot number, which is also the tracking tag, 0 to 1023 (spec/02, section 2). -/
abbrev SlotNo := BitVec 10

/-- A priority level, 0 (the highest) to 7, which is also a ladder level. -/
abbrev Level := BitVec 3

/-- A selector of a deadline table entry, 0 to 15 (spec/06, R95). -/
abbrev Selector := BitVec 4

/-- A 32-bit statistical counter, which wraps (spec/00_scope, section 6). -/
abbrev Counter := BitVec 32

/-- Device time in microseconds, 32 bits wide, wrapping (spec/06, R94). -/
abbrev Time := BitVec 32

end Sys2Proof
end

