-- ==== Sys2Proof/Config.lean ====
section
/-! DEFINITION. The principal numbers of the part (spec/00_scope, section 8). No free value is needed: the spec leaves no result of an event open. -/

namespace Sys2Proof.Config

/-- Slots 0 to 1023 (R25). -/
abbrev numSlots : Nat := 1024
/-- Sources 0 to 63 (spec/10, section 10.2). -/
abbrev numSources : Nat := 64
/-- Domains 0 to 3 (R149). -/
abbrev numDomains : Nat := 4
/-- Stream store entries 0 to 2,047 (R148). -/
abbrev numStreams : Nat := 2048
/-- Gates 0 to 255 (spec/01, section 1.1). -/
abbrev numGates : Nat := 256
/-- Deadline table entries 0 to 15 (R95). -/
abbrev numDeadlines : Nat := 16
/-- Condition kinds 0 to 10 (R159). -/
abbrev numConditions : Nat := 11
/-- Ladder levels 0 to 7 (R63). -/
abbrev numLevels : Nat := 8
/-- Pages of the payload buffer (R108). -/
abbrev numPages : Nat := 4096
/-- Bytes of a page (R108). -/
abbrev pageBytes : Nat := 64
/-- The longest payload of a transaction or completion (R41, R87). -/
abbrev maxPayload : Nat := 512
/-- The longest payload any packet of the link carries, a REPORT (R139, R172). -/
abbrev maxLinkPayload : Nat := 544
/-- Entries of the brief answer queue (R122). -/
abbrev briefCapacity : Nat := 32
/-- REPORTs the report queue holds (R123). -/
abbrev reportCapacity : Nat := 4
/-- Batches the batch queue holds (R131). -/
abbrev batchCapacity : Nat := 4
/-- Positions of a batch, END included (R134). -/
abbrev lastPosition : Nat := 32
/-- Bytes of a record's value at most (R133). -/
abbrev maxValue : Nat := 16
/-- Packets a receive buffer holds, and the receive credit advertised (R168). -/
abbrev rxCapacity : Nat := 16
/-- The run count's largest value (R125). -/
abbrev maxRun : Nat := 8
/-- The largest ceiling (R13). -/
abbrev maxCeiling : Nat := 4095
/-- The largest outstanding limit (R146). -/
abbrev maxLimit : Nat := 1024
/-- The largest completion reserve (R109). -/
abbrev maxReserve : Nat := 2048
/-- The largest slot low threshold (R34). -/
abbrev maxSlotLow : Nat := 1023
/-- The largest domain size (R151). -/
abbrev maxDomainSize : Nat := 1024
/-- Where a condition's occurrence count stops (R161). -/
abbrev maxOccurrences : Nat := 65535
/-- Microseconds in a deadline unit (R95). -/
abbrev deadlineUnit : Nat := 16

end Sys2Proof.Config
end

