-- ==== Sys2Proof/Syntax.lean ====
section
/-! DEFINITION. The commands of the part: one constructor of Instr for each row of spec/opcode_table.json, and the types of their operands. -/

namespace Sys2Proof

/-- The two ports of the part (spec/12). -/
inductive PortId where
  | initiator
  | service
  deriving DecidableEq, Repr

/-- A packet: the 8-byte header and the payload as the link delivered it (R172).
The payload need not be as long as the header's length field says (R41, R87). -/
structure Packet where
  b0 : Byte
  b1 : Byte
  b2 : Byte
  b3 : Byte
  b4 : Byte
  b5 : Byte
  b6 : Byte
  b7 : Byte
  payload : List Byte
  deriving DecidableEq, Repr

/-- The states of a source (R145). -/
inductive SourceState where
  | disabled
  | member
  | manager
  deriving DecidableEq, Repr

/-- The class of a source, which selects an access code (R48). -/
inductive SourceClass where
  | a
  | b
  deriving DecidableEq, Repr

/-- The states of a domain (R149). -/
inductive DomainState where
  | opened
  | draining
  | closed
  deriving DecidableEq, Repr

/-- The modes of a drain (R152). -/
inductive DrainMode where
  | wait
  | flush
  deriving DecidableEq, Repr

/-- The access codes of a stream entry (R48). -/
inductive Access where
  | none
  | post
  | sync
  | serve
  | full
  deriving DecidableEq, Repr

/-- The contents of a source entry that its check code covers (R144). -/
structure SourceContents where
  state : SourceState
  cls : SourceClass
  limit : Nat
  deriving DecidableEq, Repr

/-- The contents of a domain descriptor that its check code covers (R144). -/
structure DomainContents where
  valid : Bool
  state : DomainState
  base : Nat
  size : Nat
  mode : Option DrainMode
  deriving DecidableEq, Repr

/-- The contents of a stream entry that its check code covers (R144). -/
structure StreamContents where
  valid : Bool
  takeGate : GateNo
  giveGate : GateNo
  priority : Level
  accessA : Access
  accessB : Access
  selector : Selector
  deriving DecidableEq, Repr

/-- The event of R144 that makes an entry faulted.
It names the entry, and what its covered contents are afterwards when they changed (none: the code changed). -/
inductive Mismatch where
  | source (index : SourceNo) (now : Option SourceContents)
  | domain (index : DomainNo) (now : Option DomainContents)
  | stream (index : StreamIndex) (now : Option StreamContents)
  deriving DecidableEq, Repr

/-- The commands, one for each row of spec/opcode_table.json.
What an event takes from a queue of the part is no operand: it stands in the state. -/
inductive Instr where
  /-- TRANSACT (R55). -/
  | transact
  /-- AWAIT (R56). -/
  | await
  /-- POST (R57). -/
  | post
  /-- WITHDRAW (R58). -/
  | withdraw
  /-- MANAGE (R59). -/
  | manage
  /-- FORWARD (R67). -/
  | forward
  /-- COMPLETE (R78). -/
  | complete
  /-- SERVICE_LAPSE (R81): the slot whose service deadline expires. -/
  | serviceLapse (slot : SlotNo)
  /-- HOLD_EXPIRY (R100): the slot whose hold deadline expires. -/
  | holdExpiry (slot : SlotNo)
  /-- OUTBOUND_SENDING (R126). -/
  | outboundSending
  /-- FORWARD_CREDIT_RETURN (R65). -/
  | forwardCreditReturn
  /-- TRANSMIT_CREDIT_RETURN (R168). -/
  | transmitCreditReturn
  /-- PACKET_RECEIVED (R169): the port and the packet its link delivers intact. -/
  | packetReceived (port : PortId) (packet : Packet)
  /-- SIGNALLING_DETECTED (R167). -/
  | signallingDetected (port : PortId)
  /-- UP (R170): the partner's advertised receive credit and its session number. -/
  | up (port : PortId) (credit : Byte) (session : Byte)
  /-- TRAINING_FAILURE (R167). -/
  | trainingFailure (port : PortId)
  /-- LINK_LOSS (R167). -/
  | linkLoss (port : PortId)
  /-- RETRAIN_REQUEST (R167). -/
  | retrainRequest (port : PortId)
  /-- RESET_ASSERT (R177). -/
  | resetAssert
  /-- RESET_RELEASE (R177): the strap pins as sampled at the release. -/
  | resetRelease (straps : SourceNo)
  /-- CHECK_CODE_MISMATCH (R144). -/
  | checkCodeMismatch (entry : Mismatch)
  /-- BATCH_BEGIN (R132). -/
  | batchBegin
  /-- SOURCE_WRITE (R146). -/
  | sourceWrite
  /-- SOURCE_READ (R147). -/
  | sourceRead
  /-- DOMAIN_WRITE (R151). -/
  | domainWrite
  /-- DOMAIN_READ (R150). -/
  | domainRead
  /-- DRAIN (R152). -/
  | drain
  /-- REOPEN (R156). -/
  | reopen
  /-- STREAM_WRITE (R148). -/
  | streamWrite
  /-- STREAM_READ (R148). -/
  | streamRead
  /-- GATE_WRITE (R13). -/
  | gateWrite
  /-- GATE_READ (R16). -/
  | gateRead
  /-- SET_ALLOWANCE (R12). -/
  | setAllowance
  /-- DEADLINE_WRITE (R96). -/
  | deadlineWrite
  /-- DEADLINE_READ (R97). -/
  | deadlineRead
  /-- CONDITION_WRITE (R163). -/
  | conditionWrite
  /-- CONDITION_READ (R165). -/
  | conditionRead
  /-- ACKNOWLEDGE (R164). -/
  | acknowledge
  /-- DEVICE_WRITE (R157). -/
  | deviceWrite
  /-- DEVICE_READ (R158). -/
  | deviceRead
  /-- DISPATCH (R72). -/
  | dispatch
  /-- RESTART (R141). -/
  | restart
  /-- SLOT_READ (R35). -/
  | slotRead
  /-- SLOT_WRITE (R35). -/
  | slotWrite
  /-- RECLAIM (R88). -/
  | reclaim
  /-- END (R139). -/
  | endMarker
  /-- BAD_KEY (R136). -/
  | badKey
  /-- DEVICE_TIME_TICK (R94). -/
  | deviceTimeTick
  deriving DecidableEq, Repr

end Sys2Proof
end

