-- ==== Sys2Proof/WellFormed.lean ====
section
/-! DEFINITION. Which commands are well formed: the operand values that the spec admits for an event. Numbers of fixed width (sources, slots, sessions) are in range by their types. -/

namespace Sys2Proof

/-- The stored width of the counts an entry holds: two bytes (R175). -/
def fitsTwoBytes (n : Nat) : Bool := n < 65536

/-- A storage error leaves values that fit the fields of the entry (R144, R175). -/
def Mismatch.wellFormed : Mismatch → Bool
  | .source _ none => true
  | .source _ (some c) => fitsTwoBytes c.limit
  | .domain _ none => true
  | .domain _ (some c) => fitsTwoBytes c.base && fitsTwoBytes c.size
  | .stream _ _ => true

/-- The operand checks of the commands: an advertisement that brings a port UP carries a credit of 1 to 255 (R167), no packet on a link carries more than 544 bytes (R139, R172), and a corrupted entry's values fit its fields. -/
def Instr.wellFormed : Instr → Bool
  | .transact => true
  | .await => true
  | .post => true
  | .withdraw => true
  | .manage => true
  | .forward => true
  | .complete => true
  | .serviceLapse _ => true
  | .holdExpiry _ => true
  | .outboundSending => true
  | .forwardCreditReturn => true
  | .transmitCreditReturn => true
  | .packetReceived _ p => p.payload.length ≤ Config.maxLinkPayload
  | .signallingDetected _ => true
  | .up _ credit _ => credit != 0
  | .trainingFailure _ => true
  | .linkLoss _ => true
  | .retrainRequest _ => true
  | .resetAssert => true
  | .resetRelease _ => true
  | .checkCodeMismatch m => m.wellFormed
  | .batchBegin => true
  | .sourceWrite => true
  | .sourceRead => true
  | .domainWrite => true
  | .domainRead => true
  | .drain => true
  | .reopen => true
  | .streamWrite => true
  | .streamRead => true
  | .gateWrite => true
  | .gateRead => true
  | .setAllowance => true
  | .deadlineWrite => true
  | .deadlineRead => true
  | .conditionWrite => true
  | .conditionRead => true
  | .acknowledge => true
  | .deviceWrite => true
  | .deviceRead => true
  | .dispatch => true
  | .restart => true
  | .slotRead => true
  | .slotWrite => true
  | .reclaim => true
  | .endMarker => true
  | .badKey => true
  | .deviceTimeTick => true

end Sys2Proof
end

