-- ==== Sys2Proof/Decode.lean ====
section
/-! DEFINITION. The words of the opcode table: no row of spec/opcode_table.json gives bits (spec/98_reader: no row has "fixed" or "fields"), so no word spells a command (log 3). The bit fields of packets and records, which the spec does give, are read in Machine/Operands.lean. -/

namespace Sys2Proof

/-- The command that a word of the table spells: none, since the table gives no row any bits (log 3). -/
def decodeTableWord (_nbits _w : Nat) : Option Instr := none

end Sys2Proof
end

