-- ==== Sys2Proof/Machine/State.lean ====
section
/-! DEFINITION. The state of the part as plain data, the reasons a step can stop, and the state after reset. INVENTORY.md lists each field with its rule and its reset value. -/

namespace Sys2Proof.Machine

/-- A numbered table as (number, entry) pairs: numbers strictly rising, and no entry equal to what an unlisted number reads as. -/
abbrev Table (α : Type) := List (Nat × α)

/-- The states of a port (R167). -/
inductive LinkState where
  | down
  | training
  | up
  deriving DecidableEq, Repr

/-- The link-level signals that a port sends (R168, R169, R170): not packets. -/
inductive LinkSignal where
  /-- the part's advertisement: its receive credit and its session number -/
  | advertise (credit : Nat) (session : Byte)
  /-- the acknowledgement of a frame delivered to the receive buffer -/
  | acknowledge
  /-- the return of one receive credit -/
  | creditReturn
  deriving DecidableEq, Repr

/-- One port of the part (R167 to R170). -/
structure Port where
  /-- the link state (R167) -/
  link : LinkState
  /-- the partner's session number as last announced at UP, 0 before any (R170) -/
  session : Byte
  /-- whether the link was UP since power-on (R168, R170: the first UP) -/
  announced : Bool
  /-- the receive buffer, oldest first (R168) -/
  rx : List Packet
  /-- the send credit: transmit credit or forward credit (R168, R65) -/
  credit : Nat
  /-- the send credit's limit (R168) -/
  creditLimit : Nat
  /-- the receive credits the partner holds by the part's account (R168) -/
  partnerCredit : Nat
  /-- the transmit path: the packets placed in it in this session, oldest first (R169; log 8) -/
  tx : List Packet
  /-- the link-level signals sent in this session, oldest first (log 10) -/
  signals : List LinkSignal
  deriving DecidableEq, Repr

/-- A port at power-on (R167, R168, R170). -/
def Port.reset : Port :=
  { link := .down, session := 0, announced := false, rx := [], credit := 0, creditLimit := 0,
    partnerCredit := 0, tx := [], signals := [] }

/-- A source entry (R145). -/
structure SourceEntry extends SourceContents where
  /-- the source's slots in HELD to LAPSING (R31) -/
  outstanding : Nat
  /-- R60 -/
  admitted : Counter
  /-- R60 -/
  refused : Counter
  /-- the stored check code matches the contents (R144; log 7) -/
  codeMatches : Bool
  deriving DecidableEq, Repr

/-- A source entry at power-on, the strap source's apart (R145). -/
def SourceEntry.reset : SourceEntry :=
  { state := .disabled, cls := .a, limit := 16, outstanding := 0, admitted := 0, refused := 0, codeMatches := true }

/-- The strap source's entry at power-on (R145). -/
def SourceEntry.strapManager : SourceEntry := { SourceEntry.reset with state := .manager, limit := 64 }

/-- A domain descriptor (R149). -/
structure DomainEntry extends DomainContents where
  /-- the domain's slots in HELD, LADDERED and SERVING (R32) -/
  active : Nat
  /-- the stored check code matches the contents (R144; log 7) -/
  codeMatches : Bool
  deriving DecidableEq, Repr

/-- A domain descriptor at power-on (R149). -/
def DomainEntry.reset : DomainEntry :=
  { valid := false, state := .closed, base := 0, size := 1, mode := none, active := 0, codeMatches := true }

/-- A stream entry (R148). -/
structure StreamEntry extends StreamContents where
  /-- R54 -/
  seen : Bool
  /-- the stored check code matches the contents (R144; log 7) -/
  codeMatches : Bool
  deriving DecidableEq, Repr

/-- A stream entry at power-on (R148). -/
def StreamEntry.reset : StreamEntry :=
  { valid := false, takeGate := 0, giveGate := 0, priority := 0, accessA := .none, accessB := .none,
    selector := 0, seen := false, codeMatches := true }

/-- Where a released slot enters its ladder level (R7). -/
inductive Placement where
  | tail
  | head
  deriving DecidableEq, Repr

/-- A gate record (spec/01, section 1.1). -/
structure Gate where
  valid : Bool
  ceiling : Nat
  allowance : Nat
  placement : Placement
  /-- the hold deadline selector (R5) -/
  selector : Selector
  /-- the hold queue, head first (R3); the hold count is its length -/
  holdQueue : List SlotNo
  /-- the claims that non-FREE slots hold on the gate (R14) -/
  references : Nat
  takes : Counter
  gives : Counter
  holds : Counter
  expiries : Counter
  surplus : Counter
  deriving DecidableEq, Repr

/-- A gate record at power-on (R19). -/
def Gate.reset : Gate :=
  { valid := false, ceiling := 1, allowance := 0, placement := .tail, selector := 0, holdQueue := [],
    references := 0, takes := 0, gives := 0, holds := 0, expiries := 0, surplus := 0 }

/-- The seven states of a slot (R24). -/
inductive SlotState where
  | free
  | held
  | laddered
  | serving
  | answering
  | lapsing
  | lapsed
  deriving DecidableEq, Repr

/-- What a slot was given to (R23). -/
inductive SlotKind where
  | transact
  | await
  deriving DecidableEq, Repr

/-- The close codes (R119). -/
inductive CloseCode where
  | expired
  | withdrawn
  | drained
  | lapsed
  | serviceReset
  deriving DecidableEq, Repr

/-- The final answer that a slot owes (R36, R118). -/
inductive Answer where
  /-- the status byte, the completion payload and the completion pages that hold it (R78) -/
  | result (status : Byte) (payload : List Byte) (pages : Nat)
  | clear
  | close (code : CloseCode)
  deriving DecidableEq, Repr

/-- A running deadline: the device time of its start and its duration in units of 16 microseconds (R98; log 23). -/
structure Deadline where
  start : Time
  units : BitVec 16
  deriving DecidableEq, Repr

/-- A slot record (spec/02, section 2.1). -/
structure Slot where
  state : SlotState
  kind : SlotKind
  source : SourceNo
  tag : Byte
  domain : DomainNo
  stream : StreamNo
  takeGate : GateNo
  giveGate : GateNo
  priority : Level
  /-- the service selector -/
  selector : Selector
  /-- the transaction payload's length, kept after its pages are freed (R35) -/
  payloadLength : Nat
  /-- the transaction payload's bytes while the slot holds its pages -/
  payload : List Byte
  /-- the transaction pages held now (R108) -/
  pages : Nat
  giveOnCompletion : Bool
  completionExpected : Bool
  holdDeadline : Option Deadline
  serviceDeadline : Option Deadline
  answer : Option Answer
  /-- device time at the admission (R23) -/
  arrival : Time
  deriving DecidableEq, Repr

/-- A FREE slot: every field but its number is discarded (R23). -/
def Slot.reset : Slot :=
  { state := .free, kind := .transact, source := 0, tag := 0, domain := 0, stream := 0, takeGate := 0,
    giveGate := 0, priority := 0, selector := 0, payloadLength := 0, payload := [], pages := 0,
    giveOnCompletion := false, completionExpected := false, holdDeadline := none, serviceDeadline := none,
    answer := none, arrival := 0 }

/-- The reasons of a REFUSE (spec/12, section 12.3). -/
inductive Reason where
  | malformed
  | sourceDisabled
  | notManager
  | busy
  | domainInvalid
  | domainClosed
  | streamRange
  | streamInvalid
  | tableFault
  | accessDenied
  | gateInvalid
  | duplicateTag
  | sourceLimit
  | noSlot
  | noBuffer
  | notFound
  | inService
  | answered
  deriving DecidableEq, Repr

/-- What a brief answer says (R122). -/
inductive BriefBody where
  | ack (applied surplus : Nat)
  | refuse (reason : Reason)
  deriving DecidableEq, Repr

/-- An entry of the brief answer queue, whole (R122). -/
structure BriefAnswer where
  source : SourceNo
  tag : Byte
  domain : DomainNo
  stream : StreamNo
  body : BriefBody
  deriving DecidableEq, Repr

/-- The statuses of records in a REPORT (R137). -/
inductive Status where
  | done
  | badKey
  | badValue
  | wrongState
  | faulted
  | lastManager
  | isTarget
  | reserveConflict
  | overlap
  | outOfOrder
  | malformed
  | missingEnd
  | notApplied
  deriving DecidableEq, Repr

/-- One position's entry in a REPORT: its status, and the data of a READ reported DONE (R139). -/
structure ReportEntry where
  status : Status
  data : List Byte
  deriving DecidableEq, Repr

/-- A REPORT in the report queue (R123, R139). -/
structure Report where
  source : SourceNo
  tag : Byte
  applied : Nat
  entries : List ReportEntry
  deriving DecidableEq, Repr

/-- A batch in the batch queue (R131). -/
structure Batch where
  source : SourceNo
  tag : Byte
  /-- the record bytes as received -/
  bytes : List Byte
  /-- the position of the next record, from 1 (R134) -/
  position : Nat
  /-- where the next record's first byte stands in the record bytes -/
  offset : Nat
  /-- table number and index of the last keyed record taken (R135) -/
  lastKey : Option (Nat × Nat)
  /-- whether the batch has stopped (R138) -/
  stopped : Bool
  /-- the report buffer: the entries built so far -/
  entries : List ReportEntry
  /-- the number of records applied so far (R139) -/
  applied : Nat
  deriving DecidableEq, Repr

/-- The management engine's two states (R132). -/
inductive EngineState where
  | idle
  | applying
  deriving DecidableEq, Repr

/-- The eleven condition kinds, in the order of their numbers (R159). -/
inductive CondKind where
  | initiatorLinkChange
  | serviceLinkChange
  | surplusGive
  | lateCompletion
  | strayCompletion
  | serviceLapse
  | tableFault
  | slotPoolLow
  | bufferLow
  | drainComplete
  | privilegeChange
  deriving DecidableEq, Repr

/-- A condition entry (R160). -/
structure CondEntry where
  flag : Bool
  masked : Bool
  count : Nat
  /-- the first occurrence's detail in its 4-byte form (R176), present while the flag is set -/
  detail : Option (BitVec 32)
  deriving DecidableEq, Repr

/-- A condition entry at power-on (R160). -/
def CondEntry.reset : CondEntry := { flag := false, masked := false, count := 0, detail := none }

/-- When a condition entry is cleared (R165). -/
inductive ClearMode where
  | onAcknowledge
  | onRead
  deriving DecidableEq, Repr

/-- The dispatch state (R72). -/
inductive DispatchState where
  | paused
  | run
  deriving DecidableEq, Repr

/-- The state of the part. INVENTORY.md gives each field's rule and reset value. -/
structure State where
  /-- the reset pin is asserted (R177) -/
  resetAsserted : Bool
  /-- the strap pins as sampled at the last release (R177) -/
  straps : SourceNo
  /-- the part's own session number (R170) -/
  ownSession : Byte
  /-- the number last announced, which survives loss of power (R170) -/
  storedSession : Byte
  /-- the initiator link's port -/
  initPort : Port
  /-- the service link's port -/
  svcPort : Port
  sources : Table SourceEntry
  domains : Table DomainEntry
  streams : Table StreamEntry
  /-- the completion reserve (R109) -/
  reserve : Nat
  /-- the slot low threshold (R34) -/
  slotLow : Nat
  /-- the notice target (R157) -/
  noticeTarget : SourceNo
  clearMode : ClearMode
  /-- the dispatch state (R72) -/
  dispatch : DispatchState
  gates : Table Gate
  slots : Table Slot
  /-- the tag index, keyed by source and tag (R29) -/
  tagIndex : Table (Option SlotNo)
  /-- the release ladder's levels (R63) -/
  ladder : Table (List SlotNo)
  deviceTime : Time
  /-- the deadline table (R95) -/
  deadlines : Table (BitVec 16)
  /-- R108 -/
  freePages : Nat
  /-- transaction-use pages (R108) -/
  txPages : Nat
  /-- completion-use pages (R108) -/
  compPages : Nat
  /-- the answer list, head first (R120) -/
  answers : List SlotNo
  /-- the brief answer queue, oldest first (R122) -/
  brief : List BriefAnswer
  /-- the report queue, oldest first (R123) -/
  reports : List Report
  /-- the pending notice list (R124) -/
  notices : List CondKind
  /-- the outbound arbiter's run count (R125) -/
  runCount : Nat
  /-- the batch queue, oldest first (R131) -/
  batches : List Batch
  engine : EngineState
  /-- the condition entries, keyed by kind number (R160) -/
  conditions : Table CondEntry
  /-- the commands that wait, first in first out (the model's own; log 2) -/
  pending : List Instr
  deriving DecidableEq, Repr

/-- The reasons for a fault: none. The spec gives every event of the part an effect, and no event stops it (INVENTORY.md, Faults). -/
inductive Fault where
  deriving DecidableEq, Repr

/-- The reasons for a refusal. -/
inductive Refusal where
  /-- Raised by exec's arm of a command that has no meaning yet, by the row's mnemonic. Safe: nothing can be proved of such a step. -/
  | notModelled (mnemonic : String)
  deriving DecidableEq, Repr

/-- What a meaning answers. -/
abbrev Result := Host.Outcome State Fault Refusal

/-- The part right after its first power-on: the reset pin released, the power-on values of every chapter (R19, R25, R65, R94, R95, R116, R130, R131, R145, R148, R149, R157, R160, R167, R168, R170).
The strap pins are read as 0 (DESIGN CHOICE, log 4), and no session number was announced before (log 5). -/
def State.reset : State :=
  { resetAsserted := false, straps := 0, ownSession := 1, storedSession := 0,
    initPort := Port.reset, svcPort := Port.reset,
    sources := [(0, SourceEntry.strapManager)], domains := [], streams := [],
    reserve := 512, slotLow := 64, noticeTarget := 0, clearMode := .onAcknowledge, dispatch := .run,
    gates := [], slots := [], tagIndex := [], ladder := [], deviceTime := 0, deadlines := [],
    freePages := Config.numPages, txPages := 0, compPages := 0,
    answers := [], brief := [], reports := [], notices := [], runCount := 0,
    batches := [], engine := .idle, conditions := [], pending := [] }

end Sys2Proof.Machine
end

