-- ==== Sys2Proof/Machine/Ops.lean ====
section
/-! DEFINITION. The named operations over the state: numbered tables in their canonical form, the entry accessors, pages, deadlines, and the bytes of multi-byte fields. -/

namespace Sys2Proof.Machine

/-! ## Numbered tables -/

/-- The entry of number k; d is what an unlisted number reads as. -/
def Table.get {α : Type} (d : α) : Table α → Nat → α
  | [], _ => d
  | (k', v) :: t, k => if k' = k then v else Table.get d t k

/-- The table with number k unlisted. -/
def Table.erase {α : Type} (t : Table α) (k : Nat) : Table α := t.filter (fun e => e.1 != k)

/-- The table with (k, v) placed ahead of the first greater number. -/
def Table.insert {α : Type} (k : Nat) (v : α) : Table α → Table α
  | [] => [(k, v)]
  | (k', v') :: t => if k < k' then (k, v) :: (k', v') :: t else (k', v') :: Table.insert k v t

/-- The table with entry k set to v, in the canonical form. -/
def Table.set {α : Type} [DecidableEq α] (d : α) (t : Table α) (k : Nat) (v : α) : Table α :=
  if v = d then t.erase k else Table.insert k v (t.erase k)

/-- The table with every listed entry changed by f, in the canonical form. -/
def Table.mapValues {α : Type} [DecidableEq α] (d : α) (f : α → α) (t : Table α) : Table α :=
  (t.map (fun e => (e.1, f e.2))).filter (fun e => e.2 != d)

/-- The canonical form: numbers strictly rising, and no entry equal to what an unlisted number reads as. -/
abbrev Table.Wf {α : Type} (d : α) (t : Table α) : Prop :=
  t.Pairwise (fun x y => x.1 < y.1) ∧ ∀ e ∈ t, e.2 ≠ d

/-! ## Entry accessors -/

namespace State

/-- The record of slot n. -/
def slot (s : State) (n : SlotNo) : Slot := s.slots.get Slot.reset n.toNat
/-- s with the record of slot n set to x. -/
def setSlot (s : State) (n : SlotNo) (x : Slot) : State := { s with slots := s.slots.set Slot.reset n.toNat x }

/-- The record of gate g. -/
def gate (s : State) (g : GateNo) : Gate := s.gates.get Gate.reset g.toNat
/-- s with the record of gate g set to x. -/
def setGate (s : State) (g : GateNo) (x : Gate) : State := { s with gates := s.gates.set Gate.reset g.toNat x }

/-- The entry of source i. -/
def source (s : State) (i : SourceNo) : SourceEntry := s.sources.get SourceEntry.reset i.toNat
/-- s with the entry of source i set to x. -/
def setSource (s : State) (i : SourceNo) (x : SourceEntry) : State :=
  { s with sources := s.sources.set SourceEntry.reset i.toNat x }

/-- The descriptor of domain d. -/
def domain (s : State) (d : DomainNo) : DomainEntry := s.domains.get DomainEntry.reset d.toNat
/-- s with the descriptor of domain d set to x. -/
def setDomain (s : State) (d : DomainNo) (x : DomainEntry) : State :=
  { s with domains := s.domains.set DomainEntry.reset d.toNat x }

/-- The stream store entry of index i. -/
def stream (s : State) (i : StreamIndex) : StreamEntry := s.streams.get StreamEntry.reset i.toNat
/-- s with the stream store entry of index i set to x. -/
def setStream (s : State) (i : StreamIndex) (x : StreamEntry) : State :=
  { s with streams := s.streams.set StreamEntry.reset i.toNat x }

/-- The duration in deadline table entry k (R95). -/
def deadline (s : State) (k : Selector) : BitVec 16 := s.deadlines.get 0 k.toNat
/-- s with deadline table entry k set to d. -/
def setDeadline (s : State) (k : Selector) (d : BitVec 16) : State :=
  { s with deadlines := s.deadlines.set 0 k.toNat d }

/-- The ordered slots of ladder level l, head first (R63). -/
def level (s : State) (l : Level) : List SlotNo := s.ladder.get [] l.toNat
/-- s with ladder level l set to q. -/
def setLevel (s : State) (l : Level) (q : List SlotNo) : State :=
  { s with ladder := s.ladder.set [] l.toNat q }

end State

/-- The place of a source and tag in the tag index. -/
def tagKey (src : SourceNo) (tag : Byte) : Nat := (src ++ tag).toNat

namespace State

/-- The slot that carries a source and tag, when there is one (R29). -/
def tagged (s : State) (src : SourceNo) (tag : Byte) : Option SlotNo := s.tagIndex.get none (tagKey src tag)
/-- s with the tag index entry of a source and tag set to n (none: no entry). -/
def setTagged (s : State) (src : SourceNo) (tag : Byte) (n : Option SlotNo) : State :=
  { s with tagIndex := s.tagIndex.set none (tagKey src tag) n }

/-- The port of a link. -/
def port (s : State) : PortId → Port
  | .initiator => s.initPort
  | .service => s.svcPort
/-- s with a port set to x. -/
def setPort (s : State) (p : PortId) (x : Port) : State :=
  match p with
  | .initiator => { s with initPort := x }
  | .service => { s with svcPort := x }

/-! ## Views of the slot pool -/

/-- The free list: the FREE slots in number order (R25). -/
def freeList (s : State) : List SlotNo :=
  ((List.range Config.numSlots).filter (fun n => (s.slots.get Slot.reset n).state = .free)).map (BitVec.ofNat 10)

/-- The free count: the free list's length (R25). -/
def freeCount (s : State) : Nat := s.freeList.length

/-- The slots that are not FREE, in ascending order of their numbers. -/
def usedSlots (s : State) : List SlotNo :=
  (s.slots.filter (fun e => e.2.state != .free)).map (fun e => BitVec.ofNat 10 e.1)

/-- The serving set (R75). -/
def servingSet (s : State) : List SlotNo := s.usedSlots.filter (fun n => (s.slot n).state = .serving)

/-- The lapsed set (R75). -/
def lapsedSet (s : State) : List SlotNo := s.usedSlots.filter (fun n => (s.slot n).state = .lapsed)

end State

/-- The hold count of a gate: its hold queue's length (R3). -/
def Gate.holdCount (g : Gate) : Nat := g.holdQueue.length

/-! ## Pages and deadlines -/

/-- The pages of a payload of n bytes: n divided by 64, rounded up (R108). -/
def pagesOf (n : Nat) : Nat := (n + 63) / Config.pageBytes

/-- The completion pages that an answer holds (R108). -/
def Answer.heldPages : Option Answer → Nat
  | some (.result _ _ p) => p
  | some .clear => 0
  | some (.close _) => 0
  | none => 0

/-- The duration of a deadline in microseconds (R95). -/
def Deadline.duration (d : Deadline) : Nat := d.units.toNat * Config.deadlineUnit

/-- The device time at which a deadline ends: start plus duration, modulo 2^32 (R98). -/
def Deadline.endTime (d : Deadline) : Time := d.start + BitVec.ofNat 32 d.duration

/-- Device time minus the start time, modulo 2^32, has reached the duration (R98). -/
def Deadline.reached (d : Deadline) (now : Time) : Bool := d.duration ≤ (now - d.start).toNat

/-- The deadline that a selector starts now: none when the selector is 0 or its entry holds 0 (R5, R67, R98). -/
def startDeadline (s : State) (sel : Selector) : Option Deadline :=
  if sel = 0 ∨ s.deadline sel = 0 then none else some { start := s.deviceTime, units := s.deadline sel }

/-! ## Multi-byte fields, most significant byte first (R172) -/

/-- Two bytes as a number. -/
def readTwo (hi lo : Byte) : Nat := (hi ++ lo).toNat

/-- A number in one byte. -/
def byteOf (n : Nat) : Byte := BitVec.ofNat 8 n

/-- A number in two bytes. -/
def twoBytes (n : Nat) : List Byte := [BitVec.ofNat 8 (n / 256), BitVec.ofNat 8 n]

/-- A 32-bit value in four bytes. -/
def fourBytes (x : BitVec 32) : List Byte :=
  [x.extractLsb' 24 8, x.extractLsb' 16 8, x.extractLsb' 8 8, x.extractLsb' 0 8]

/-- A yes/no field in a byte: 0 no, 1 yes (R175). -/
def yesNo (b : Bool) : Byte := if b then 1 else 0

end Sys2Proof.Machine
end

