-- ==== Sys2Proof/Machine/Flags.lean ====
section
/-! DEFINITION. The condition unit: raising, masking and clearing conditions, and the details they carry (spec/11). -/

namespace Sys2Proof.Machine

/-- The number of a condition kind (R159). -/
def CondKind.number : CondKind → Nat
  | .initiatorLinkChange => 0
  | .serviceLinkChange => 1
  | .surplusGive => 2
  | .lateCompletion => 3
  | .strayCompletion => 4
  | .serviceLapse => 5
  | .tableFault => 6
  | .slotPoolLow => 7
  | .bufferLow => 8
  | .drainComplete => 9
  | .privilegeChange => 10

/-- The eleven kinds in the order of their numbers (R159). -/
def CondKind.all : List CondKind :=
  [.initiatorLinkChange, .serviceLinkChange, .surplusGive, .lateCompletion, .strayCompletion, .serviceLapse,
   .tableFault, .slotPoolLow, .bufferLow, .drainComplete, .privilegeChange]

/-- The kind of a number, 0 to 10 (R160); the last kind for any other number, which no record reaches (R136). -/
def CondKind.ofNumber (n : Nat) : CondKind := CondKind.all.getD n .privilegeChange

/-- The entry of a condition kind (R160). -/
def State.cond (s : State) (k : CondKind) : CondEntry := s.conditions.get CondEntry.reset k.number
/-- s with the entry of a condition kind set to x. -/
def State.setCond (s : State) (k : CondKind) (x : CondEntry) : State :=
  { s with conditions := s.conditions.set CondEntry.reset k.number x }

/-- A condition entry after one more occurrence (R161). -/
def CondEntry.occur (c : CondEntry) (detail : BitVec 32) : CondEntry :=
  if c.flag then { c with count := min (c.count + 1) Config.maxOccurrences }
  else { c with flag := true, count := 1, detail := some detail }

/-- Raising a condition (R161), with the NOTICE it queues: a raising that sets a clear flag of an unmasked entry (R162). -/
def raise (k : CondKind) (detail : BitVec 32) (s : State) : State :=
  { s.setCond k ((s.cond k).occur detail) with
    notices := if !(s.cond k).flag && !(s.cond k).masked then s.notices ++ [k] else s.notices }

/-- A condition entry cleared, its mask kept (R164). -/
def CondEntry.cleared (c : CondEntry) : CondEntry := { c with flag := false, count := 0, detail := none }

/-- Clearing an entry: the pending NOTICE of the kind is removed unsent (R164, R124). -/
def clearCond (k : CondKind) (s : State) : State :=
  { s.setCond k (s.cond k).cleared with notices := s.notices.filter (fun k' => k' != k) }

/-- Storing a mask; unmasking a set flag with no NOTICE pending queues one (R163). -/
def storeMask (k : CondKind) (masked : Bool) (s : State) : State :=
  { s.setCond k { s.cond k with masked := masked } with
    notices :=
      if (s.cond k).masked && !masked && (s.cond k).flag && !s.notices.contains k then s.notices ++ [k] else s.notices }

/-! ## Details in their 4-byte form (R176) -/

/-- The code of a link state (R175). -/
def LinkState.code : LinkState → Byte
  | .down => 0
  | .training => 1
  | .up => 2

/-- The detail of a link change: link state, session number, 0, 0. -/
def linkDetail (st : LinkState) (session : Byte) : BitVec 32 := st.code ++ session ++ (0 : BitVec 16)

/-- The detail of a table fault: table number, 0, index in two bytes. -/
def tableDetail (table : Byte) (index : Nat) : BitVec 32 := table ++ (0 : Byte) ++ BitVec.ofNat 16 index

/-- The detail that is one number: a gate, source, domain, slot, tag or free count. -/
def numberDetail (n : Nat) : BitVec 32 := BitVec.ofNat 32 n

end Sys2Proof.Machine
end

