-- ==== Sys2Proof/Machine/Operands.lean ====
section
/-! DEFINITION. The operand forms: the fields of packet headers (R172, R173), the parsing of management records (R133, R134, R174) and the codes of their values (R175). -/

namespace Sys2Proof

/-! ## Packet headers (R172) -/

namespace Packet

/-- The kind code: byte 0, bits 7 to 4. -/
def kindCode (p : Packet) : BitVec 4 := p.b0.extractLsb' 4 4
/-- The domain field: byte 0, bits 3 and 2. -/
def domain (p : Packet) : DomainNo := p.b0.extractLsb' 2 2
/-- The source field: byte 1, bits 5 to 0. -/
def source (p : Packet) : SourceNo := p.b1.extractLsb' 0 6
/-- The tag byte of the initiator link: byte 2. -/
def tag (p : Packet) : Byte := p.b2
/-- The tracking tag of the service link: byte 3, bits 7 and 6, and byte 2. -/
def trackingTag (p : Packet) : SlotNo := p.b3.extractLsb' 6 2 ++ p.b2
/-- The stream field: byte 3, bits 1 and 0, and byte 4. -/
def stream (p : Packet) : StreamNo := p.b3.extractLsb' 0 2 ++ p.b4
/-- The payload length field: bytes 5 and 6. -/
def lengthField (p : Packet) : Nat := Machine.readTwo p.b5 p.b6
/-- The kind-specific byte: byte 7. -/
def specific (p : Packet) : Byte := p.b7

/-- The fill bits of an initiator-link packet are zero: two of byte 0, two of byte 1 and the six high bits of byte 3 (R41). -/
def initiatorFillZero (p : Packet) : Bool :=
  p.b0.extractLsb' 0 2 = 0 && p.b1.extractLsb' 6 2 = 0 && p.b3.extractLsb' 2 6 = 0

/-- The fill bits of a service-link packet are zero: two of byte 0, two of byte 1 and the four middle bits of byte 3 (R172). -/
def serviceFillZero (p : Packet) : Bool :=
  p.b0.extractLsb' 0 2 = 0 && p.b1.extractLsb' 6 2 = 0 && p.b3.extractLsb' 2 4 = 0

/-- A packet of the part, its header filled as R172 lays it out. -/
def build (kind : BitVec 4) (domain : DomainNo) (source : SourceNo) (byte2 : Byte) (tagHigh : BitVec 2)
    (stream : StreamNo) (specific : Byte) (payload : List Byte) : Packet :=
  { b0 := kind ++ domain ++ (0 : BitVec 2)
    b1 := (0 : BitVec 2) ++ source
    b2 := byte2
    b3 := tagHigh ++ (0 : BitVec 4) ++ stream.extractLsb' 8 2
    b4 := stream.extractLsb' 0 8
    b5 := BitVec.ofNat 8 (payload.length / 256)
    b6 := BitVec.ofNat 8 payload.length
    b7 := specific
    payload := payload }

end Packet

namespace Machine

/-- The five inbound kinds of the initiator link (R173). -/
inductive InKind where
  | transact
  | await
  | post
  | withdraw
  | manage
  deriving DecidableEq, Repr

/-- The kind code of an inbound kind (R173). -/
def InKind.code : InKind → BitVec 4
  | .transact => 1
  | .await => 2
  | .post => 3
  | .withdraw => 4
  | .manage => 5

/-- The inbound kind of a kind code; none for a code other than 1 to 5 (R41). -/
def InKind.ofCode (c : BitVec 4) : Option InKind :=
  if c = 1 then some .transact
  else if c = 2 then some .await
  else if c = 3 then some .post
  else if c = 4 then some .withdraw
  else if c = 5 then some .manage
  else none

/-- The kind names a flow: TRANSACT, AWAIT and POST (R45). -/
def InKind.isFlow : InKind → Bool
  | .transact => true
  | .await => true
  | .post => true
  | .withdraw => false
  | .manage => false

/-- The kind needs a slot: TRANSACT and AWAIT (R40). -/
def InKind.needsSlot : InKind → Bool
  | .transact => true
  | .await => true
  | .post => false
  | .withdraw => false
  | .manage => false

/-- The header and payload length fit the kind: the table of R41. -/
def fitsKind (k : InKind) (p : Packet) : Bool :=
  match k with
  | .transact => p.lengthField ≤ Config.maxPayload && p.specific = 0
  | .await => p.lengthField = 0 && p.specific = 0
  | .post => p.lengthField = 0 && 1 ≤ p.specific.toNat && p.specific.toNat ≤ 16
  | .withdraw => p.lengthField = 0 && p.domain = 0 && p.stream = 0 && p.tag = 0
  | .manage => 1 ≤ p.lengthField && p.lengthField ≤ Config.maxPayload && p.domain = 0 && p.stream = 0 && p.specific = 0

/-- A packet on the initiator link is refused with MALFORMED (R41). -/
def malformed (p : Packet) : Bool :=
  match InKind.ofCode p.kindCode with
  | none => true
  | some k => !(p.initiatorFillZero && p.payload.length = p.lengthField && fitsKind k p)

/-- A packet on the service link is a well-formed COMPLETE (R87, R173). -/
def wellFormedComplete (p : Packet) : Bool :=
  p.kindCode = 2 && p.serviceFillZero && p.domain = 0 && p.source = 0 && p.stream = 0 &&
    p.lengthField ≤ Config.maxPayload && p.payload.length = p.lengthField

/-! ## Management records (R133, R174) -/

/-- The nine keyed record kinds (R174). -/
inductive RecordKind where
  | read
  | write
  | setAllowance
  | drain
  | reopen
  | reclaim
  | acknowledge
  | dispatch
  | restart
  deriving DecidableEq, Repr

/-- The record kind of a code (R174). -/
def RecordKind.ofCode (c : Byte) : Option RecordKind :=
  if c = 1 then some .read
  else if c = 2 then some .write
  else if c = 3 then some .setAllowance
  else if c = 4 then some .drain
  else if c = 5 then some .reopen
  else if c = 6 then some .reclaim
  else if c = 7 then some .acknowledge
  else if c = 8 then some .dispatch
  else if c = 9 then some .restart
  else none

/-- A keyed record (R133). -/
structure Record where
  table : Nat
  index : Nat
  kind : RecordKind
  value : List Byte
  deriving DecidableEq, Repr

/-- The bytes a keyed record takes in the batch (R174). -/
def Record.size (r : Record) : Nat := 5 + r.value.length

/-- What the engine finds at a position (R134). -/
inductive Found where
  | missingEnd
  | endMarker
  | malformed
  | keyed (r : Record)
  deriving DecidableEq, Repr

/-- A keyed record read from the bytes of a position: fewer than five bytes, an unknown kind code, a value length above 16 or a value past the end are MALFORMED (R134). -/
def parseKeyed : List Byte → Found
  | t :: i1 :: i0 :: k :: len :: body =>
    match RecordKind.ofCode k with
    | none => .malformed
    | some kind =>
      if len.toNat > Config.maxValue ∨ body.length < len.toNat then .malformed
      else .keyed { table := t.toNat, index := readTwo i1 i0, kind := kind, value := body.take len.toNat }
  | _ => .malformed

/-- What stands at a position, given the bytes from there on (R134). -/
def findRecord (position : Nat) : List Byte → Found
  | [] => .missingEnd
  | b :: rest =>
    if b = 0xFF then .endMarker
    else if Config.lastPosition ≤ position then .missingEnd
    else parseKeyed (b :: rest)

/-- The rules that own keyed records, one for each table and kind that it takes (R133). -/
inductive RecordOp where
  | sourceRead
  | sourceWrite
  | domainRead
  | domainWrite
  | drain
  | reopen
  | streamRead
  | streamWrite
  | gateRead
  | gateWrite
  | setAllowance
  | deadlineRead
  | deadlineWrite
  | conditionRead
  | conditionWrite
  | acknowledge
  | deviceRead
  | deviceWrite
  | dispatch
  | restart
  | slotRead
  | slotWrite
  | reclaim
  deriving DecidableEq, Repr

/-- The record kinds that each table takes (the first table of R133). -/
def tableTakes : Nat → RecordKind → Option RecordOp
  | 1, .read => some .sourceRead
  | 1, .write => some .sourceWrite
  | 2, .read => some .domainRead
  | 2, .write => some .domainWrite
  | 2, .drain => some .drain
  | 2, .reopen => some .reopen
  | 3, .read => some .streamRead
  | 3, .write => some .streamWrite
  | 4, .read => some .gateRead
  | 4, .write => some .gateWrite
  | 4, .setAllowance => some .setAllowance
  | 5, .read => some .deadlineRead
  | 5, .write => some .deadlineWrite
  | 6, .read => some .conditionRead
  | 6, .write => some .conditionWrite
  | 6, .acknowledge => some .acknowledge
  | 7, .read => some .deviceRead
  | 7, .write => some .deviceWrite
  | 7, .dispatch => some .dispatch
  | 7, .restart => some .restart
  | 8, .read => some .slotRead
  | 8, .write => some .slotWrite
  | 8, .reclaim => some .reclaim
  | _, _ => none

/-- How many indexes each table has (R133). -/
def tableSize : Nat → Nat
  | 1 => Config.numSources
  | 2 => Config.numDomains
  | 3 => Config.numStreams
  | 4 => Config.numGates
  | 5 => Config.numDeadlines
  | 6 => Config.numConditions
  | 7 => 1
  | 8 => Config.numSlots
  | _ => 0

/-- The rule that owns a record; none where the record is BAD KEY (R136). -/
def Record.owner (r : Record) : Option RecordOp :=
  if r.index < tableSize r.table then tableTakes r.table r.kind else none

/-- A key is below another: table numbers first, indexes next (R135). -/
def keyBelow (k last : Nat × Nat) : Bool := k.1 < last.1 || (k.1 = last.1 && k.2 < last.2)

/-! ## Codes of values (R175) -/

/-- A yes/no code. -/
def readYesNo (b : Byte) : Option Bool := if b = 0 then some false else if b = 1 then some true else none

/-- A source state's code. -/
def readSourceState (b : Byte) : Option SourceState :=
  if b = 0 then some .disabled else if b = 1 then some .member else if b = 2 then some .manager else none
/-- The code of a source state. -/
def sourceStateCode : SourceState → Byte
  | .disabled => 0
  | .member => 1
  | .manager => 2

/-- A class's code. -/
def readClass (b : Byte) : Option SourceClass := if b = 0 then some .a else if b = 1 then some .b else none
/-- The code of a class. -/
def classCode : SourceClass → Byte
  | .a => 0
  | .b => 1

/-- The code of a domain state. -/
def domainStateCode : DomainState → Byte
  | .opened => 0
  | .draining => 1
  | .closed => 2

/-- A drain mode's code, as DRAIN takes it. -/
def readDrainMode (b : Byte) : Option DrainMode := if b = 1 then some .wait else if b = 2 then some .flush else none
/-- The code of a drain mode, 0 when absent. -/
def drainModeCode : Option DrainMode → Byte
  | none => 0
  | some .wait => 1
  | some .flush => 2

/-- An access code. -/
def readAccess (b : Byte) : Option Access :=
  if b = 0 then some .none else if b = 1 then some .post else if b = 2 then some .sync
  else if b = 3 then some .serve else if b = 4 then some .full else Option.none
/-- The code of an access. -/
def accessCode : Access → Byte
  | .none => 0
  | .post => 1
  | .sync => 2
  | .serve => 3
  | .full => 4

/-- A placement's code. -/
def readPlacement (b : Byte) : Option Placement := if b = 0 then some .tail else if b = 1 then some .head else none
/-- The code of a placement. -/
def placementCode : Placement → Byte
  | .tail => 0
  | .head => 1

/-- A clear mode's code. -/
def readClearMode (b : Byte) : Option ClearMode :=
  if b = 0 then some .onAcknowledge else if b = 1 then some .onRead else none
/-- The code of a clear mode. -/
def clearModeCode : ClearMode → Byte
  | .onAcknowledge => 0
  | .onRead => 1

/-- A dispatch mode's code. -/
def readDispatch (b : Byte) : Option DispatchState := if b = 0 then some .paused else if b = 1 then some .run else none
/-- The code of a dispatch state. -/
def dispatchCode : DispatchState → Byte
  | .paused => 0
  | .run => 1

/-- The code of a slot state. -/
def slotStateCode : SlotState → Byte
  | .free => 0
  | .held => 1
  | .laddered => 2
  | .serving => 3
  | .answering => 4
  | .lapsing => 5
  | .lapsed => 6

/-- The code of a slot kind. -/
def slotKindCode : SlotKind → Byte
  | .transact => 0
  | .await => 1

/-- The value of a close code (spec/12, section 12.3). -/
def closeCodeValue : CloseCode → Byte
  | .expired => 1
  | .withdrawn => 2
  | .drained => 3
  | .lapsed => 4
  | .serviceReset => 5

/-- The value of a reason code (spec/12, section 12.3). -/
def reasonValue : Reason → Byte
  | .malformed => 1
  | .sourceDisabled => 2
  | .notManager => 3
  | .busy => 4
  | .domainInvalid => 5
  | .domainClosed => 6
  | .streamRange => 7
  | .streamInvalid => 8
  | .tableFault => 9
  | .accessDenied => 10
  | .gateInvalid => 11
  | .duplicateTag => 12
  | .sourceLimit => 13
  | .noSlot => 14
  | .noBuffer => 15
  | .notFound => 16
  | .inService => 17
  | .answered => 18

/-- The code of a status (R176). -/
def statusCode : Status → Byte
  | .done => 0
  | .badKey => 1
  | .badValue => 2
  | .wrongState => 3
  | .faulted => 4
  | .lastManager => 5
  | .isTarget => 6
  | .reserveConflict => 7
  | .overlap => 8
  | .outOfOrder => 9
  | .malformed => 10
  | .missingEnd => 11
  | .notApplied => 12

/-- The view a READ selects among n: 0 without a value, the value's byte when it is below n; none where it is BAD VALUE (R16, R35, R147, R158). -/
def readView (n : Nat) : List Byte → Option Nat
  | [] => some 0
  | [v] => if v.toNat < n then some v.toNat else none
  | _ => none

end Machine
end Sys2Proof
end

