-- ==== Sys2Proof/Machine/Pool.lean ====
section
/-! DEFINITION. The slot pool's accounting (spec/02): the counts it keeps, the tag index, gate claims, pages, and the moves that free, lapse or answer a slot. -/

namespace Sys2Proof.Machine

/-! ## Changes of one entry -/

/-- One slot record changed by f. -/
def modifySlot (n : SlotNo) (f : Slot → Slot) (s : State) : State := s.setSlot n (f (s.slot n))
/-- One gate record changed by f. -/
def modifyGate (g : GateNo) (f : Gate → Gate) (s : State) : State := s.setGate g (f (s.gate g))
/-- One source entry changed by f. -/
def modifySource (i : SourceNo) (f : SourceEntry → SourceEntry) (s : State) : State := s.setSource i (f (s.source i))
/-- One domain descriptor changed by f. -/
def modifyDomain (d : DomainNo) (f : DomainEntry → DomainEntry) (s : State) : State := s.setDomain d (f (s.domain d))
/-- One port changed by f. -/
def modifyPort (p : PortId) (f : Port → Port) (s : State) : State := s.setPort p (f (s.port p))

/-! ## Active counts and the end of a drain -/

/-- Whether a fall of an active count to 0 is reported at once, or after the event's other parts (R91, R152, R171). -/
inductive FallReport where
  | atOnce
  | deferred
  deriving DecidableEq, Repr

/-- The domain's active count rises by one (R32). -/
def raiseActive (d : DomainNo) (s : State) : State := modifyDomain d (fun e => { e with active := e.active + 1 }) s

/-- The domain's active count falls by one (R32). -/
def lowerActive (d : DomainNo) (s : State) : State := modifyDomain d (fun e => { e with active := e.active - 1 }) s

/-- A DRAINING, unfaulted domain whose active count is 0 (R155, R144). -/
def DomainEntry.drained (e : DomainEntry) : Bool := e.codeMatches && e.state = .draining && e.active = 0

/-- The completion of a drain: CLOSED, no drain mode, a fresh code, and DRAIN COMPLETE (R155). -/
def completeDrain (d : DomainNo) (s : State) : State :=
  if (s.domain d).drained then
    raise .drainComplete (numberDetail d.toNat)
      (modifyDomain d (fun e => { e with state := .closed, mode := none, codeMatches := true }) s)
  else s

/-- A slot of the domain leaves the counting states; the fall is reported as the event says (R32). -/
def leaveActive (r : FallReport) (d : DomainNo) (s : State) : State :=
  match r with
  | .atOnce => completeDrain d (lowerActive d s)
  | .deferred => lowerActive d s

/-- The drain completions that an event reports after its other parts, in ascending domain number (R91, R155). -/
def completeDrains (s : State) : State :=
  completeDrain 3 (completeDrain 2 (completeDrain 1 (completeDrain 0 s)))

/-! ## Claims, tag index and outstanding count -/

/-- One claim on a gate is added (R33). -/
def addClaim (g : GateNo) (s : State) : State := modifyGate g (fun e => { e with references := e.references + 1 }) s
/-- One claim on a gate is removed (R33). -/
def dropClaim (g : GateNo) (s : State) : State := modifyGate g (fun e => { e with references := e.references - 1 }) s

/-- The tag index gains an entry and the source's outstanding count rises (R29, R31). -/
def enterIndex (n : SlotNo) (src : SourceNo) (tag : Byte) (s : State) : State :=
  modifySource src (fun e => { e with outstanding := e.outstanding + 1 }) (s.setTagged src tag (some n))

/-- The tag index entry is removed and the source's outstanding count falls (R29, R31). -/
def leaveIndex (src : SourceNo) (tag : Byte) (s : State) : State :=
  modifySource src (fun e => { e with outstanding := e.outstanding - 1 }) (s.setTagged src tag none)

/-- The states whose slots count as outstanding and stand in the tag index (R29, R31). -/
def SlotState.indexed : SlotState → Bool
  | .free => false
  | .held => true
  | .laddered => true
  | .serving => true
  | .answering => true
  | .lapsing => true
  | .lapsed => false

/-- The states whose slots count as active (R32). -/
def SlotState.counted : SlotState → Bool
  | .free => false
  | .held => true
  | .laddered => true
  | .serving => true
  | .answering => false
  | .lapsing => false
  | .lapsed => false

/-! ## Pages -/

/-- Pages pass from free to transaction use (R111). -/
def claimTxPages (p : Nat) (s : State) : State := { s with freePages := s.freePages - p, txPages := s.txPages + p }
/-- Pages pass from free to completion use (R112). -/
def claimCompPages (p : Nat) (s : State) : State := { s with freePages := s.freePages - p, compPages := s.compPages + p }
/-- Pages pass from transaction use to free (R113). -/
def freeTxPages (p : Nat) (s : State) : State := { s with freePages := s.freePages + p, txPages := s.txPages - p }
/-- Pages pass from completion use to free (R114). -/
def freeCompPages (p : Nat) (s : State) : State := { s with freePages := s.freePages + p, compPages := s.compPages - p }

/-- A slot's transaction pages are freed; it keeps its payload length (R113). -/
def releasePages (n : SlotNo) (s : State) : State :=
  modifySlot n (fun x => { x with pages := 0, payload := [] }) (freeTxPages (s.slot n).pages s)

/-! ## Collections -/

/-- A slot leaves its take gate's hold queue, the others keeping their order; no give is made (R10). -/
def leaveHoldQueue (n : SlotNo) (s : State) : State :=
  modifyGate (s.slot n).takeGate (fun g => { g with holdQueue := g.holdQueue.filter (fun m => m != n) }) s

/-- A slot leaves its ladder level, the others keeping their order (R63). -/
def leaveLadder (n : SlotNo) (s : State) : State :=
  s.setLevel (s.slot n).priority ((s.level (s.slot n).priority).filter (fun m => m != n))

/-- A slot leaves the answer list, the others keeping their order (R120). -/
def leaveAnswers (n : SlotNo) (s : State) : State := { s with answers := s.answers.filter (fun m => m != n) }

/-- A slot leaves the collection of its state (R24); the serving and lapsed sets and the free list are views of the slot states. -/
def leaveCollection (n : SlotNo) (s : State) : State :=
  match (s.slot n).state with
  | .free => s
  | .held => leaveHoldQueue n s
  | .laddered => leaveLadder n s
  | .serving => s
  | .answering => leaveAnswers n s
  | .lapsing => leaveAnswers n s
  | .lapsed => s

/-- A slot comes to owe its final answer, in ANSWERING or LAPSING: its deadline is cancelled and it joins the tail of the answer list (R36, R98, R120). -/
def owe (st : SlotState) (a : Answer) (n : SlotNo) (s : State) : State :=
  let s' := modifySlot n (fun x => { x with state := st, answer := some a, holdDeadline := none, serviceDeadline := none }) s
  { s' with answers := s'.answers ++ [n] }

/-! ## Freeing and lapsing -/

/-- A slot's tag index entry and its outstanding count end with its indexed state (R27, R28). -/
def endIndex (x : Slot) (s : State) : State := if x.state.indexed then leaveIndex x.source x.tag s else s

/-- A slot's active count ends with its counted state, without a report (R37, R38). -/
def endActive (x : Slot) (s : State) : State := if x.state.counted then lowerActive x.domain s else s

/-- A slot becomes FREE, with the accounting of R27: it leaves its collection, index, counts and claims, its pages are freed, its deadline is cancelled and its record discarded. -/
def freeSlot (n : SlotNo) (s : State) : State :=
  let x := s.slot n
  let s1 := endActive x (endIndex x (leaveCollection n s))
  let s2 := dropClaim x.giveGate (dropClaim x.takeGate s1)
  let s3 := freeCompPages (Answer.heldPages x.answer) (freeTxPages x.pages s2)
  s3.setSlot n Slot.reset

/-- A slot becomes LAPSED, with the accounting of R28: it keeps its claims and its two flags, and its answer and deadline are dropped. -/
def lapseSlot (n : SlotNo) (s : State) : State :=
  let x := s.slot n
  let s1 := endActive x (endIndex x (leaveCollection n s))
  s1.setSlot n { x with state := .lapsed, answer := none, holdDeadline := none, serviceDeadline := none }

/-! ## Allocation -/

/-- The lowest-numbered FREE slot (R26). -/
def State.lowestFree (s : State) : Option SlotNo := s.freeList.head?

/-- The record of a newly allocated slot, filled from the packet and the stream entry (R23).
Its state is HELD until the take of the same event places it (R26). -/
def filledSlot (kind : SlotKind) (p : Packet) (e : StreamEntry) (now : Time) : Slot :=
  { state := .held, kind := kind, source := p.source, tag := p.tag, domain := p.domain, stream := p.stream,
    takeGate := e.takeGate, giveGate := e.giveGate, priority := e.priority, selector := e.selector,
    payloadLength := p.payload.length, payload := p.payload, pages := pagesOf p.payload.length,
    giveOnCompletion := kind = .transact, completionExpected := false, holdDeadline := none,
    serviceDeadline := none, answer := none, arrival := now }

/-- SLOT POOL LOW, when an allocation lowers the free count from the threshold plus one to the threshold (R34). -/
def raiseSlotPoolLow (countBefore : Nat) (s : State) : State :=
  if countBefore = s.slotLow + 1 then raise .slotPoolLow (numberDetail s.slotLow) s else s

/-- The allocation of slot n with a filled record: tag index entry, outstanding count and the two claims (R26). -/
def allocate (n : SlotNo) (x : Slot) (s : State) : State :=
  let s1 := enterIndex n x.source x.tag (s.setSlot n x)
  raiseSlotPoolLow s.freeCount (addClaim x.giveGate (addClaim x.takeGate s1))

end Sys2Proof.Machine
end

