-- ==== Sys2Proof/Machine/Gates.lean ====
section
/-! DEFINITION. The gate unit (spec/01): takes, gives, releases, removals from hold queues and the hold expiry. -/

namespace Sys2Proof.Machine

/-! ## The ladder's entry -/

/-- A slot enters the ladder level of its priority, at its tail or its head (R64). -/
def enterLadder (pl : Placement) (n : SlotNo) (s : State) : State :=
  let l := (s.slot n).priority
  match pl with
  | .tail => s.setLevel l (s.level l ++ [n])
  | .head => s.setLevel l (n :: s.level l)

/-! ## Takes -/

/-- Where a slot is inserted in a hold queue: behind every slot of its own or a lower level number, ahead of every slot of a higher (R3). -/
def insertByPriority (s : State) (n : SlotNo) (q : List SlotNo) : List SlotNo :=
  let ahead := fun m => (s.slot m).priority.toNat ≤ (s.slot n).priority.toNat
  q.takeWhile ahead ++ n :: q.dropWhile ahead

/-- A granted take: a TRANSACT is LADDERED at the tail of its level, an AWAIT answers CLEAR (R4). -/
def grant (n : SlotNo) (s : State) : State :=
  let x := s.slot n
  let s1 := modifyGate x.takeGate (fun g => { g with allowance := g.allowance - 1 }) s
  match x.kind with
  | .transact => raiseActive x.domain (enterLadder .tail n (modifySlot n (fun y => { y with state := .laddered }) s1))
  | .await => owe .answering .clear n s1

/-- A take that finds allowance 0: the slot is HELD, and its hold deadline starts from the gate's selector (R5). -/
def hold (n : SlotNo) (s : State) : State :=
  let x := s.slot n
  let d := startDeadline s (s.gate x.takeGate).selector
  let q := insertByPriority s n (s.gate x.takeGate).holdQueue
  let s1 := modifyGate x.takeGate (fun g => { g with holdQueue := q, holds := g.holds + 1 }) s
  raiseActive x.domain (modifySlot n (fun y => { y with state := .held, holdDeadline := d }) s1)

/-- A take request for slot n on its take gate (R4). -/
def take (n : SlotNo) (s : State) : State :=
  let g := (s.slot n).takeGate
  let s1 := modifyGate g (fun e => { e with takes := e.takes + 1 }) s
  if 0 < (s.gate g).allowance then grant n s1 else hold n s1

/-! ## Gives -/

/-- Whether a give has a sender: a POST's ACK reports its surplus, any other surplus raises SURPLUS GIVE (R8). -/
inductive GiveCause where
  | post
  | noSender
  deriving DecidableEq, Repr

/-- Release of the head of a gate's hold queue (R7). -/
def release (r : FallReport) (g : GateNo) (s : State) : State :=
  match (s.gate g).holdQueue with
  | [] => s
  | n :: q =>
    let x := s.slot n
    let s1 := modifyGate g (fun e => { e with holdQueue := q }) s
    match x.kind with
    | .transact =>
      enterLadder (s.gate g).placement n (modifySlot n (fun y => { y with state := .laddered, holdDeadline := none }) s1)
    | .await => leaveActive r x.domain (owe .answering .clear n s1)

/-- A surplus give (R8). -/
def surplusGive (c : GiveCause) (g : GateNo) (s : State) : State :=
  let s1 := modifyGate g (fun e => { e with surplus := e.surplus + 1 }) s
  match c with
  | .post => s1
  | .noSender => raise .surplusGive (numberDetail g.toNat) s1

/-- A give to a gate (R6). -/
def give (c : GiveCause) (r : FallReport) (g : GateNo) (s : State) : State :=
  let s1 := modifyGate g (fun e => { e with gives := e.gives + 1 }) s
  if (s.gate g).holdQueue ≠ [] then release r g s1
  else if (s.gate g).allowance < (s.gate g).ceiling then modifyGate g (fun e => { e with allowance := e.allowance + 1 }) s1
  else surplusGive c g s1

/-- Gives to several gates, one after another (R17). -/
def giveEach (c : GiveCause) (r : FallReport) : List GateNo → State → State
  | [], s => s
  | g :: gs, s => giveEach c r gs (give c r g s)

/-- The next give to the gate would be surplus (R6). -/
def wouldBeSurplus (g : GateNo) (s : State) : Bool :=
  (s.gate g).holdQueue.isEmpty && !decide ((s.gate g).allowance < (s.gate g).ceiling)

/-- The n gives of a POST, one after another (R17, R57). -/
def postGives (g : GateNo) : Nat → State → State
  | 0, s => s
  | n + 1, s => postGives g n (give .post .atOnce g s)

/-- How many of the n gives of a POST are surplus (R57). -/
def postSurplus (g : GateNo) : Nat → State → Nat
  | 0, _ => 0
  | n + 1, s => (if wouldBeSurplus g s then 1 else 0) + postSurplus g n (give .post .atOnce g s)

/-- The releases of a SET ALLOWANCE: each adds one to the gives counter (R12). -/
def releaseMany (g : GateNo) : Nat → State → State
  | 0, s => s
  | n + 1, s => releaseMany g n (release .atOnce g (modifyGate g (fun e => { e with gives := e.gives + 1 }) s))

/-! ## Closing held and laddered slots -/

/-- A HELD slot leaves its queue and is closed: ANSWERING with CLOSE, its pages freed, its domain's active count lowered (R10, R100, R103). -/
def closeHeld (code : CloseCode) (r : FallReport) (n : SlotNo) (s : State) : State :=
  leaveActive r (s.slot n).domain (releasePages n (owe .answering (.close code) n (leaveHoldQueue n s)))

/-- A LADDERED slot leaves its level and is closed; the give-back is made by the rule of the cause (R69, R70). -/
def closeLaddered (code : CloseCode) (r : FallReport) (n : SlotNo) (s : State) : State :=
  leaveActive r (s.slot n).domain (releasePages n (owe .answering (.close code) n (leaveLadder n s)))

/-- The hold deadline of slot n runs and has ended (R98). -/
def holdDue (s : State) (n : SlotNo) : Bool :=
  (s.slot n).state = .held && match (s.slot n).holdDeadline with
    | some d => d.reached s.deviceTime
    | none => false

/-- A hold expiry (R100): the expiries counter adds one and the slot is closed EXPIRED. -/
def expireHold (n : SlotNo) (s : State) : State :=
  closeHeld .expired .atOnce n (modifyGate (s.slot n).takeGate (fun g => { g with expiries := g.expiries + 1 }) s)

/-- HOLD_EXPIRY (R100): taken at a HELD slot whose hold deadline has ended; an expiry reaches no other slot (R98; log 1). -/
def execHoldExpiry (n : SlotNo) (s : State) : Result := .next (if holdDue s n then expireHold n s else s)

end Sys2Proof.Machine
end

