-- ==== Sys2Proof/Machine/Admission.lean ====
section
/-! DEFINITION. The admission unit (spec/03) and withdrawal (spec/06): TRANSACT, AWAIT, POST, WITHDRAW and MANAGE. -/

namespace Sys2Proof.Machine

/-! ## Flow lookup -/

/-- The stream store index of a packet's flow: base plus stream (R46). -/
def flowIndex (s : State) (p : Packet) : StreamIndex := BitVec.ofNat 11 ((s.domain p.domain).base + p.stream.toNat)

/-- The stream entry of a packet's flow (R46). -/
def flowEntry (s : State) (p : Packet) : StreamEntry := s.stream (flowIndex s p)

/-- The access code that governs a source: its class selects it (R48). -/
def governingAccess (s : State) (p : Packet) : Access :=
  match (s.source p.source).cls with
  | .a => (flowEntry s p).accessA
  | .b => (flowEntry s p).accessB

/-- What an access code permits: the table of R48. -/
def Access.permits (a : Access) (k : InKind) : Bool :=
  match a, k with
  | .post, .post => true
  | .sync, .await => true
  | .sync, .post => true
  | .serve, .transact => true
  | .full, .transact => true
  | .full, .await => true
  | .full, .post => true
  | _, _ => false

/-- What a domain's state admits: the table of R45. -/
def domainAdmits (st : DomainState) (k : InKind) : Bool :=
  match st, k with
  | .opened, _ => true
  | .draining, .post => true
  | _, _ => false

/-! ## The fifteen checks (R40) -/

/-- The source entry is faulted (R47). -/
def sourceFaulted (s : State) (p : Packet) : Bool := !(s.source p.source).codeMatches
/-- The domain descriptor is faulted (R47). -/
def domainFaulted (s : State) (p : Packet) : Bool := !(s.domain p.domain).codeMatches
/-- The stream entry is read and is faulted: with a faulted descriptor none is read (R47). -/
def streamFaulted (s : State) (p : Packet) : Bool := !domainFaulted s p && !(flowEntry s p).codeMatches

/-- The claim test of a payload of p pages (R53, R111). -/
def claimFits (s : State) (pages : Nat) : Bool :=
  pages = 0 || (s.txPages + pages ≤ Config.numPages - s.reserve && pages ≤ s.freePages)

/-- Each check that applies to the kind, in the order of R40, with whether the packet fails it.
A check that needs a field of a faulted entry is passed (R47). -/
def checks (k : InKind) (p : Packet) (s : State) : List (Bool × Reason) :=
  let src := s.source p.source
  let dom := s.domain p.domain
  let flow := k.isFlow
  let entry := flowEntry s p
  [ (malformed p, .malformed),
    (!sourceFaulted s p && src.state = .disabled, .sourceDisabled),
    (k = .manage && !sourceFaulted s p && src.state = .member, .notManager),
    (k = .manage && Config.batchCapacity ≤ s.batches.length, .busy),
    (flow && !domainFaulted s p && !dom.valid, .domainInvalid),
    (flow && !domainFaulted s p && !domainAdmits dom.state k, .domainClosed),
    (flow && !domainFaulted s p && dom.size ≤ p.stream.toNat, .streamRange),
    (flow && !domainFaulted s p && !streamFaulted s p && !entry.valid, .streamInvalid),
    (sourceFaulted s p || (flow && (domainFaulted s p || streamFaulted s p)), .tableFault),
    (flow && !Access.permits (governingAccess s p) k, .accessDenied),
    (flow && (!(s.gate entry.giveGate).valid || (k.needsSlot && !(s.gate entry.takeGate).valid)), .gateInvalid),
    (k.needsSlot && (s.tagged p.source p.tag).isSome, .duplicateTag),
    (k.needsSlot && src.limit ≤ src.outstanding, .sourceLimit),
    (k.needsSlot && s.freeCount = 0, .noSlot),
    (k = .transact && !claimFits s (pagesOf p.payload.length), .noBuffer) ]

/-- The first check of a list that a packet fails (R40). -/
def firstFailure : List (Bool × Reason) → Option Reason
  | [] => none
  | (true, r) :: _ => some r
  | (false, _) :: rest => firstFailure rest

/-- The reason of the first check that a packet fails, when it fails one (R40). -/
def failedCheck (k : InKind) (p : Packet) (s : State) : Option Reason := firstFailure (checks k p s)

/-! ## Refusals and acknowledgements -/

/-- The tag of a REFUSE: the target tag for a WITHDRAW that is not malformed, else the tag byte (R42). -/
def refusalTag (p : Packet) (r : Reason) : Byte :=
  if r ≠ .malformed ∧ InKind.ofCode p.kindCode = some .withdraw then p.specific else p.tag

/-- The brief answer that a packet's reservation is filled with (R42, R57, R118). -/
def briefFor (p : Packet) (tag : Byte) (body : BriefBody) : BriefAnswer :=
  { source := p.source, tag := tag, domain := p.domain, stream := p.stream, body := body }

/-- The reservation is filled: the brief queue grows by one entry at its tail (R39, R122). -/
def fillReservation (b : BriefAnswer) (s : State) : State := { s with brief := s.brief ++ [b] }

/-- The source's admitted counter grows (R60). -/
def countAdmitted (p : Packet) (s : State) : State :=
  modifySource p.source (fun e => { e with admitted := e.admitted + 1 }) s
/-- The source's refused counter grows (R60). -/
def countRefused (p : Packet) (s : State) : State :=
  modifySource p.source (fun e => { e with refused := e.refused + 1 }) s

/-- The detail of TABLE FAULT: the first faulted entry in the order source, domain, stream (R47). -/
def tableFaultDetail (p : Packet) (s : State) : BitVec 32 :=
  if sourceFaulted s p then tableDetail 1 p.source.toNat
  else if domainFaulted s p then tableDetail 2 p.domain.toNat
  else tableDetail 3 (flowIndex s p).toNat

/-- The condition that a failed check raises: TABLE FAULT at check 9, BUFFER LOW at check 15 (R42). -/
def raiseForRefusal (p : Packet) (r : Reason) (s : State) : State :=
  if r = .tableFault then raise .tableFault (tableFaultDetail p s) s
  else if r = .noBuffer then raise .bufferLow (numberDetail p.source.toNat) s
  else s

/-- The refusal of a packet (R42). -/
def refuse (p : Packet) (r : Reason) (s : State) : State :=
  fillReservation (briefFor p (refusalTag p r) (.refuse r)) (countRefused p (raiseForRefusal p r s))

/-! ## Taking the oldest packet -/

/-- A packet leaves a port's receive buffer, and its receive credit is returned to the partner (R168). -/
def takeFromBuffer (port : PortId) (s : State) : State :=
  modifyPort port (fun q => { q with rx := q.rx.tail, partnerCredit := q.partnerCredit + 1, signals := q.signals ++ [.creditReturn] }) s

/-- A row takes a packet of its own kind, and a packet whose kind code is no inbound kind's (R41; log 13). -/
def rowTakes (k : InKind) (p : Packet) : Bool :=
  match InKind.ofCode p.kindCode with
  | some k' => k' = k
  | none => true

/-- The packet that the admission unit takes by the row of a kind: the oldest, while the brief queue holds fewer than 32 entries (R39). -/
def oldestFor (k : InKind) (s : State) : Option Packet :=
  match s.initPort.rx with
  | [] => none
  | p :: _ => if s.brief.length < Config.briefCapacity && rowTakes k p then some p else none

/-- The event of a row: the oldest packet is taken, checked, and refused or handed to the rule of its kind (R39, R40). -/
def takePacket (k : InKind) (rule : Packet → State → State) (s : State) : State :=
  match oldestFor k s with
  | none => s
  | some p =>
    let s1 := takeFromBuffer .initiator s
    match failedCheck k p s1 with
    | some r => refuse p r s1
    | none => rule p s1

/-! ## The rules of the kinds -/

/-- The stream entry's seen flag is set (R54). -/
def setSeen (p : Packet) (s : State) : State := s.setStream (flowIndex s p) { flowEntry s p with seen := true }

/-- A packet that gains a slot: pages claimed, slot allocated, seen flag and admitted counter, and the take (R55, R56). -/
def giveSlot (kind : SlotKind) (p : Packet) (s : State) : State :=
  match s.lowestFree with
  | none => s
  | some n =>
    let s1 := claimTxPages (pagesOf p.payload.length) s
    let s2 := allocate n (filledSlot kind p (flowEntry s p) s.deviceTime) s1
    take n (countAdmitted p (setSeen p s2))

/-- A TRANSACT that passes every check (R55). -/
def ruleTransact (p : Packet) (s : State) : State := giveSlot .transact p s

/-- An AWAIT that passes every check (R56): its payload is empty, so no pages are claimed. -/
def ruleAwait (p : Packet) (s : State) : State := giveSlot .await p s

/-- A POST that passes every check (R57). -/
def rulePost (p : Packet) (s : State) : State :=
  let g := (flowEntry s p).giveGate
  let n := p.specific.toNat
  let surplus := postSurplus g n s
  fillReservation (briefFor p p.tag (.ack (n - surplus) surplus)) (countAdmitted p (setSeen p (postGives g n s)))

/-- A withdrawal failure (R105). -/
def refuseWithdraw (p : Packet) (r : Reason) (s : State) : State :=
  fillReservation (briefFor p p.specific (.refuse r)) (countRefused p s)

/-- A WITHDRAW that passes its checks: the state of the slot found decides (R58, R102 to R105). -/
def ruleWithdraw (p : Packet) (s : State) : State :=
  match s.tagged p.source p.specific with
  | none => refuseWithdraw p .notFound s
  | some n =>
    match (s.slot n).state with
    | .free => refuseWithdraw p .notFound s
    | .held => countAdmitted p (closeHeld .withdrawn .atOnce n s)
    | .laddered => countAdmitted p (give .noSender .atOnce (s.slot n).takeGate (closeLaddered .withdrawn .atOnce n s))
    | .serving => refuseWithdraw p .inService s
    | .answering => refuseWithdraw p .answered s
    | .lapsing => refuseWithdraw p .answered s
    | .lapsed => refuseWithdraw p .notFound s

/-- A batch as accepted: its progress at the start (R59, R131). -/
def newBatch (p : Packet) : Batch :=
  { source := p.source, tag := p.tag, bytes := p.payload, position := 1, offset := 0, lastKey := none,
    stopped := false, entries := [], applied := 0 }

/-- A MANAGE that passes its checks joins the tail of the batch queue (R59). -/
def ruleManage (p : Packet) (s : State) : State :=
  countAdmitted p { s with batches := s.batches ++ [newBatch p] }

/-! ## The five rows -/

/-- TRANSACT (R55). -/
def execTransact (s : State) : Result := .next (takePacket .transact ruleTransact s)
/-- AWAIT (R56). -/
def execAwait (s : State) : Result := .next (takePacket .await ruleAwait s)
/-- POST (R57). -/
def execPost (s : State) : Result := .next (takePacket .post rulePost s)
/-- WITHDRAW (R58). -/
def execWithdraw (s : State) : Result := .next (takePacket .withdraw ruleWithdraw s)
/-- MANAGE (R59). -/
def execManage (s : State) : Result := .next (takePacket .manage ruleManage s)

end Sys2Proof.Machine
end

