-- ==== Sys2Proof/Machine/Service.lean ====
section
/-! DEFINITION. The dispatcher (spec/04) and the service tracker (spec/05): FORWARD, COMPLETE and SERVICE_LAPSE. -/

namespace Sys2Proof.Machine

/-! ## The dispatcher -/

/-- The ladder levels from the highest to the lowest (R63). -/
def allLevels : List Level := [0, 1, 2, 3, 4, 5, 6, 7]

/-- The head of the highest non-empty level (R66). -/
def ladderHead (s : State) : Option SlotNo := (allLevels.flatMap s.level).head?

/-- The slot that the dispatcher forwards now: RUN, link UP, credit at least 1 and a level not empty (R66). -/
def forwardChoice (s : State) : Option SlotNo :=
  if s.dispatch = .run ∧ s.svcPort.link = .up ∧ 1 ≤ s.svcPort.credit then ladderHead s else none

/-- The FORWARD packet of a slot (R68, R173). -/
def forwardPacket (n : SlotNo) (x : Slot) : Packet :=
  Packet.build 1 x.domain x.source (n.extractLsb' 0 8) (n.extractLsb' 8 2) x.stream 0 x.payload

/-- A packet is placed in a port's transmit path at the cost of one credit (R67, R126). -/
def transmit (port : PortId) (p : Packet) (s : State) : State :=
  modifyPort port (fun q => { q with credit := q.credit - 1, tx := q.tx ++ [p] }) s

/-- A forward of slot n, the head of its level (R67). -/
def forwardSlot (n : SlotNo) (s : State) : State :=
  let x := s.slot n
  let s1 := s.setLevel x.priority (s.level x.priority).tail
  let s2 := transmit .service (forwardPacket n x) s1
  let d := startDeadline s x.selector
  modifySlot n (fun y => { y with state := .serving, completionExpected := true, serviceDeadline := d }) (releasePages n s2)

/-- FORWARD (R66, R67): the chosen slot is forwarded; when a condition fails nothing is forwarded. -/
def execForward (s : State) : Result :=
  .next (match forwardChoice s with
    | none => s
    | some n => forwardSlot n s)

/-! ## The tracker -/

/-- The oldest packet leaves the service link's receive buffer (R76). -/
def takeServicePacket (s : State) : State :=
  modifyPort .service (fun q => { q with rx := q.rx.tail, partnerCredit := q.partnerCredit + 1, signals := q.signals ++ [.creditReturn] }) s

/-- The give that a slot's end makes when its give on completion is yes (R78, R85, R88). -/
def completionGive (r : FallReport) (x : Slot) (s : State) : State :=
  if x.giveOnCompletion then give .noSender r x.giveGate s else s

/-- A COMPLETE taken for SERVING slot n (R78). -/
def completeServing (p : Packet) (n : SlotNo) (s : State) : State :=
  let x := s.slot n
  let pages := pagesOf p.payload.length
  let s1 := owe .answering (.result p.specific p.payload pages) n (claimCompPages pages s)
  completionGive .atOnce x (leaveActive .atOnce x.domain s1)

/-- A late COMPLETE, for LAPSED slot n (R85). -/
def completeLate (n : SlotNo) (s : State) : State :=
  raise .lateCompletion (numberDetail n.toNat) (completionGive .atOnce (s.slot n) (freeSlot n s))

/-- A stray COMPLETE or a malformed packet (R86, R87). -/
def completeStray (p : Packet) (s : State) : State := raise .strayCompletion (numberDetail p.trackingTag.toNat) s

/-- What the tracker does with the oldest packet: the table of R76, with the wait for pages (R77) and malformed packets (R87). -/
def takeComplete (p : Packet) (s : State) : State :=
  if wellFormedComplete p then
    match (s.slot p.trackingTag).state with
    | .serving =>
      if pagesOf p.payload.length ≤ s.freePages then completeServing p p.trackingTag (takeServicePacket s) else s
    | .lapsed => completeLate p.trackingTag (takeServicePacket s)
    | .free => completeStray p (takeServicePacket s)
    | .held => completeStray p (takeServicePacket s)
    | .laddered => completeStray p (takeServicePacket s)
    | .answering => completeStray p (takeServicePacket s)
    | .lapsing => completeStray p (takeServicePacket s)
  else completeStray p (takeServicePacket s)

/-- COMPLETE (R76): the tracker looks at the oldest packet of the service link's receive buffer. -/
def execComplete (s : State) : Result :=
  .next (match s.svcPort.rx with
    | [] => s
    | p :: _ => takeComplete p s)

/-- The service deadline of slot n runs and has ended (R98). -/
def serviceDue (s : State) (n : SlotNo) : Bool :=
  (s.slot n).state = .serving && match (s.slot n).serviceDeadline with
    | some d => d.reached s.deviceTime
    | none => false

/-- The expiry of a service deadline (R81). -/
def lapseService (n : SlotNo) (s : State) : State :=
  raise .serviceLapse (numberDetail n.toNat)
    (leaveActive .atOnce (s.slot n).domain (owe .lapsing (.close .lapsed) n s))

/-- SERVICE_LAPSE (R81): taken at a SERVING slot whose service deadline has ended; an expiry reaches no other slot (R98; log 1). -/
def execServiceLapse (n : SlotNo) (s : State) : Result := .next (if serviceDue s n then lapseService n s else s)

end Sys2Proof.Machine
end

