-- ==== Sys2Proof/Machine/Resets.lean ====
section
/-! DEFINITION. The events that reinitialise state: power-on and the reset pin (R177), RESTART's effects (R141) and the two session changes (R91, R171). -/

namespace Sys2Proof.Machine

/-! ## Power-on -/

/-- Power-on values of every block, with the strap pins sampled and the part's session number advanced (R177, R170). -/
def powerOn (straps : SourceNo) (stored : Byte) (pending : List Instr) : State :=
  { State.reset with
    straps := straps
    ownSession := stored + 1
    storedSession := stored
    sources := [(straps.toNat, SourceEntry.strapManager)]
    noticeTarget := straps
    pending := pending }

/-- RESET_ASSERT (R177): both ports DOWN, and every slot, queue and table dropped without answer.
While the pin is asserted the tables stand at their power-on values (log 12). -/
def execResetAssert (s : State) : Result :=
  .next { powerOn s.straps s.storedSession s.pending with resetAsserted := true, ownSession := s.ownSession }

/-- RESET_RELEASE (R177): releasing the asserted pin is a power-on. -/
def execResetRelease (straps : SourceNo) (s : State) : Result :=
  .next (if s.resetAsserted then powerOn straps s.storedSession s.pending else s)

/-! ## Collections that RESTART and an initiator session change both empty -/

/-- A gate with its hold queue empty (R18, R20). -/
def Gate.emptied (g : Gate) : Gate := { g with holdQueue := [] }

/-- Ladder, answer list, tag index and hold queues empty, outstanding and active counts 0, every page free (R18, R20, R37, R38, R71, R116). -/
def clearCollections (s : State) : State :=
  { s with
    ladder := []
    answers := []
    tagIndex := []
    gates := s.gates.mapValues Gate.reset Gate.emptied
    sources := s.sources.mapValues SourceEntry.reset (fun e => { e with outstanding := 0 })
    domains := s.domains.mapValues DomainEntry.reset (fun e => { e with active := 0 })
    freePages := Config.numPages
    txPages := 0
    compPages := 0 }

/-- Each of the given slots moved by f, one after another. -/
def moveEach (f : SlotNo → State → State) : List SlotNo → State → State
  | [], s => s
  | n :: ns, s => moveEach f ns (f n s)

/-! ## RESTART -/

/-- A slot's move at RESTART: the table of R37. -/
def restartSlot (n : SlotNo) (s : State) : State :=
  match (s.slot n).state with
  | .free => s
  | .held => freeSlot n s
  | .laddered => freeSlot n s
  | .serving => modifySlot n (fun x => { x with giveOnCompletion := false }) (lapseSlot n s)
  | .answering => freeSlot n s
  | .lapsing => modifySlot n (fun x => { x with giveOnCompletion := false }) (lapseSlot n s)
  | .lapsed => modifySlot n (fun x => { x with giveOnCompletion := false }) s

/-- A valid gate set full and empty, its counters 0; an invalid gate unchanged (R18). -/
def Gate.restarted (g : Gate) : Gate :=
  if g.valid then
    { g with allowance := g.ceiling, holdQueue := [], takes := 0, gives := 0, holds := 0, expiries := 0, surplus := 0 }
  else g

/-- A source entry at RESTART: its two counters 0 (R60, R145). -/
def SourceEntry.restarted (e : SourceEntry) : SourceEntry := { e with admitted := 0, refused := 0 }

/-- A domain descriptor at RESTART: an unfaulted DRAINING one becomes CLOSED, with a fresh code (R149, R144). -/
def DomainEntry.restarted (e : DomainEntry) : DomainEntry :=
  if e.codeMatches && e.state = .draining then { e with state := .closed, mode := none, codeMatches := true } else e

/-- The effects of RESTART on every block: the table of R141. -/
def restartBlocks (s : State) : State :=
  let s1 := clearCollections (moveEach restartSlot s.usedSlots s)
  { s1 with
    gates := s1.gates.mapValues Gate.reset Gate.restarted
    sources := s1.sources.mapValues SourceEntry.reset SourceEntry.restarted
    domains := s1.domains.mapValues DomainEntry.reset DomainEntry.restarted
    dispatch := .run
    notices := []
    runCount := 0
    conditions := s1.conditions.mapValues CondEntry.reset CondEntry.cleared }

/-! ## Initiator session change -/

/-- A slot's move at an initiator session change: the table of R38. -/
def initiatorChangeSlot (n : SlotNo) (s : State) : State :=
  match (s.slot n).state with
  | .free => s
  | .held => freeSlot n s
  | .laddered => freeSlot n s
  | .serving => lapseSlot n s
  | .answering => freeSlot n s
  | .lapsing => if (s.slot n).completionExpected then lapseSlot n s else freeSlot n s
  | .lapsed => s

/-- The take gates that receive a give-back, in the order of their slots: LADDERED slots and unsent CLEARs (R9, R20). -/
def giveBackGates (s : State) : List GateNo :=
  s.usedSlots.filterMap (fun n =>
    let x := s.slot n
    if x.state = .laddered ∨ (x.state = .answering ∧ x.answer = some .clear) then some x.takeGate else none)

/-- A port at the UP of a new session: both buffers empty, number, credit and limit set, the receive credit advertised (R91, R171). -/
def Port.newSession (q : Port) (credit session own : Byte) : Port :=
  { q with
    link := .up, session := session, announced := true, rx := [], credit := credit.toNat, creditLimit := credit.toNat,
    partnerCredit := Config.rxCapacity, tx := [], signals := [.advertise Config.rxCapacity own] }

/-- The slot moves, the give-backs and the emptied queues of an initiator session change (R171 part 3). -/
def initiatorChangeBlocks (s : State) : State :=
  let s1 := clearCollections (moveEach initiatorChangeSlot s.usedSlots s)
  let s2 := giveEach .noSender .deferred (giveBackGates s) s1
  completeDrains { s2 with brief := [], reports := [], batches := [], engine := .idle, runCount := 0 }

/-- An initiator session change, its LINK CHANGE apart: the buffers discarded, the credit set, the blocks' rules applied (R171 parts 1 to 3). -/
def initiatorSessionChange (credit session : Byte) (s : State) : State :=
  initiatorChangeBlocks (modifyPort .initiator (fun q => q.newSession credit session s.ownSession) s)

/-! ## Service session change -/

/-- A slot's move at a service session change: the table of R90. -/
def serviceChangeSlot (n : SlotNo) (s : State) : State :=
  match (s.slot n).state with
  | .free => s
  | .held => s
  | .laddered => s
  | .serving => lowerActive (s.slot n).domain (owe .answering (.close .serviceReset) n s)
  | .answering => s
  | .lapsing => modifySlot n (fun x => { x with completionExpected := false, giveOnCompletion := false }) s
  | .lapsed => freeSlot n s

/-- The give gates that receive a give, in the order of their slots: SERVING, LAPSING and LAPSED slots whose give on completion is yes (R90, R91). -/
def serviceGiveGates (s : State) : List GateNo :=
  s.usedSlots.filterMap (fun n =>
    let x := s.slot n
    if (x.state = .serving ∨ x.state = .lapsing ∨ x.state = .lapsed) ∧ x.giveOnCompletion = true then some x.giveGate else none)

/-- A service session change, its LINK CHANGE apart (R91 parts 1 to 5). -/
def serviceSessionChange (credit session : Byte) (s : State) : State :=
  let s1 := modifyPort .service (fun q => q.newSession credit session s.ownSession) s
  let s2 := moveEach serviceChangeSlot s.usedSlots s1
  completeDrains (giveEach .noSender .deferred (serviceGiveGates s) s2)

end Sys2Proof.Machine
end

