-- ==== Sys2Proof/Machine/Links.lean ====
section
/-! DEFINITION. The two ports (spec/12): link states, credits, received packets, sessions; and the outside causes: the reference clock and storage errors. -/

namespace Sys2Proof.Machine

/-! ## Link states (R167) -/

/-- The LINK CHANGE condition of a port. -/
def linkCondition : PortId → CondKind
  | .initiator => .initiatorLinkChange
  | .service => .serviceLinkChange

/-- The LINK CHANGE of a port's state as it now stands, with the session number as last announced (R159, R167). -/
def raiseLinkChange (p : PortId) (s : State) : State :=
  raise (linkCondition p) (linkDetail (s.port p).link (s.port p).session) s

/-- A port moves to a link state, which raises its LINK CHANGE (R167). -/
def moveLink (p : PortId) (st : LinkState) (s : State) : State :=
  raiseLinkChange p (modifyPort p (fun q => { q with link := st }) s)

/-- SIGNALLING_DETECTED (R167): DOWN to TRAINING, while reset is not asserted. -/
def execSignallingDetected (p : PortId) (s : State) : Result :=
  .next (if (s.port p).link = .down ∧ s.resetAsserted = false then moveLink p .training s else s)

/-- TRAINING_FAILURE (R167): TRAINING to DOWN. -/
def execTrainingFailure (p : PortId) (s : State) : Result :=
  .next (if (s.port p).link = .training then moveLink p .down s else s)

/-- LINK_LOSS (R167): UP to DOWN. -/
def execLinkLoss (p : PortId) (s : State) : Result :=
  .next (if (s.port p).link = .up then moveLink p .down s else s)

/-- RETRAIN_REQUEST (R167): UP to TRAINING. -/
def execRetrainRequest (p : PortId) (s : State) : Result :=
  .next (if (s.port p).link = .up then moveLink p .training s else s)

/-! ## Credits and packets -/

/-- A credit return raises a port's send credit by one, up to its limit; a port that is not UP receives nothing (R65, R167, R168; log 19). -/
def returnCredit (p : PortId) (s : State) : State :=
  if (s.port p).link = .up ∧ (s.port p).credit < (s.port p).creditLimit then
    modifyPort p (fun q => { q with credit := q.credit + 1 }) s
  else s

/-- FORWARD_CREDIT_RETURN (R65). -/
def execForwardCreditReturn (s : State) : Result := .next (returnCredit .service s)

/-- TRANSMIT_CREDIT_RETURN (R168). -/
def execTransmitCreditReturn (s : State) : Result := .next (returnCredit .initiator s)

/-- A packet enters the receive buffer and its frame is acknowledged (R169). -/
def acceptPacket (p : PortId) (x : Packet) (s : State) : State :=
  modifyPort p (fun q => { q with rx := q.rx ++ [x], partnerCredit := q.partnerCredit - 1, signals := q.signals ++ [.acknowledge] }) s

/-- PACKET_RECEIVED (R168, R169): taken while the port is UP and its receive buffer has room.
A packet sent without credit is not acknowledged, and the link sends it again once a position is free (log 9). -/
def execPacketReceived (p : PortId) (x : Packet) (s : State) : Result :=
  .next (if (s.port p).link = .up ∧ (s.port p).rx.length < Config.rxCapacity then acceptPacket p x s else s)

/-! ## UP (R170) -/

/-- The part announces its own number at an UP and keeps it as the last announced (R170; log 6). -/
def announceOwn (s : State) : State := { s with storedSession := s.ownSession }

/-- The first UP since power-on: number kept, send credit and limit set, receive credit advertised; no slot, queue or table is touched (R168, R170). -/
def firstUp (p : PortId) (credit session : Byte) (s : State) : State :=
  modifyPort p (fun q => { q with
    link := .up, session := session, announced := true, credit := credit.toNat, creditLimit := credit.toNat,
    partnerCredit := Config.rxCapacity, signals := q.signals ++ [.advertise Config.rxCapacity s.ownSession] }) s

/-- A retrain: the credits, the receive buffer and the transmit path are kept (R168, R170). -/
def retrainUp (p : PortId) (s : State) : State :=
  modifyPort p (fun q => { q with link := .up, signals := q.signals ++ [.advertise Config.rxCapacity s.ownSession] }) s

/-- A session change of a link (R91, R171). -/
def sessionChange (p : PortId) (credit session : Byte) (s : State) : State :=
  match p with
  | .initiator => initiatorSessionChange credit session s
  | .service => serviceSessionChange credit session s

/-- An UP, classified by the announced session number (R170). -/
def reachUp (p : PortId) (credit session : Byte) (s : State) : State :=
  let s1 := announceOwn s
  if (s.port p).announced = false then firstUp p credit session s1
  else if session = (s.port p).session then retrainUp p s1
  else sessionChange p credit session s1

/-- UP (R167, R170): the exchange of advertisements completes at a TRAINING port.
A zero-credit advertisement moves the port to DOWN (R167; log 22). LINK CHANGE is the last part of the event (R91, R171). -/
def execUp (p : PortId) (credit session : Byte) (s : State) : Result :=
  .next (if (s.port p).link = .training then
      if credit = 0 then moveLink p .down s else raiseLinkChange p (reachUp p credit session s)
    else s)

/-! ## Outside causes -/

/-- The entry's covered contents or its code change so that the two no longer match (R144). -/
def corrupt (m : Mismatch) (s : State) : State :=
  match m with
  | .source i none => modifySource i (fun e => { e with codeMatches := false }) s
  | .source i (some c) => modifySource i (fun e => { e with toSourceContents := c, codeMatches := false }) s
  | .domain i none => modifyDomain i (fun e => { e with codeMatches := false }) s
  | .domain i (some c) => modifyDomain i (fun e => { e with toDomainContents := c, codeMatches := false }) s
  | .stream i none => s.setStream i { s.stream i with codeMatches := false }
  | .stream i (some c) => s.setStream i { s.stream i with toStreamContents := c, codeMatches := false }

/-- CHECK_CODE_MISMATCH (R144): sends no packet and raises no condition. While reset is asserted there is no table to change (log 12). -/
def execCheckCodeMismatch (m : Mismatch) (s : State) : Result := .next (if s.resetAsserted then s else corrupt m s)

/-- DEVICE_TIME_TICK (R94): device time rises by one, wrapping; it starts at the release of the reset pin (R177; log 12). -/
def execDeviceTimeTick (s : State) : Result :=
  .next (if s.resetAsserted then s else { s with deviceTime := s.deviceTime + 1 })

end Sys2Proof.Machine
end

