-- ==== Sys2Proof/Machine/Outbound.lean ====
section
/-! DEFINITION. The answer unit and the outbound arbiter (spec/08): the packets it composes and OUTBOUND_SENDING. -/

namespace Sys2Proof.Machine

/-! ## The packets (R118, R173) -/

/-- The packet of a slot answer, composed from the slot record (R118). -/
def answerPacket (x : Slot) : Answer → Packet
  | .result status payload _ => Packet.build 8 x.domain x.source x.tag 0 x.stream status payload
  | .clear => Packet.build 9 x.domain x.source x.tag 0 x.stream 0 []
  | .close code => Packet.build 10 x.domain x.source x.tag 0 x.stream (closeCodeValue code) []

/-- The packet of a brief answer: ACK or REFUSE (R118). -/
def briefPacket (b : BriefAnswer) : Packet :=
  match b.body with
  | .ack applied surplus => Packet.build 11 b.domain b.source b.tag 0 b.stream 0 [byteOf applied, byteOf surplus]
  | .refuse r => Packet.build 12 b.domain b.source b.tag 0 b.stream (reasonValue r) []

/-- A REPORT's payload: records applied, entries, then each position's status and data (R176). -/
def reportPayload (r : Report) : List Byte :=
  byteOf r.applied :: byteOf r.entries.length :: r.entries.flatMap (fun e => statusCode e.status :: e.data)

/-- The packet of a REPORT (R118). -/
def reportPacket (r : Report) : Packet := Packet.build 13 0 r.source r.tag 0 0 0 (reportPayload r)

/-- A NOTICE's payload, from the condition entry as it stands (R124, R176); a field shown as absent is zero (R175). -/
def noticePayload (k : CondKind) (c : CondEntry) : List Byte :=
  byteOf k.number :: (twoBytes c.count ++ fourBytes (c.detail.getD 0))

/-- The packet of a NOTICE, to the notice target of the moment with tag 0 (R124). -/
def noticePacket (s : State) (k : CondKind) : Packet :=
  Packet.build 14 0 s.noticeTarget 0 0 0 0 (noticePayload k (s.cond k))

/-! ## The arbiter -/

/-- What the arbiter sends next. -/
inductive Sending where
  | notice (k : CondKind)
  | report (r : Report)
  | brief (b : BriefAnswer)
  | answer (n : SlotNo)
  deriving DecidableEq, Repr

/-- The slot answer at the head of the answer list. -/
def answerChoice (s : State) : Option Sending :=
  match s.answers with
  | [] => none
  | n :: _ => some (.answer n)

/-- The first non-empty collection in the order of R125. -/
def preference (s : State) : Option Sending :=
  match s.notices, s.reports, s.brief with
  | k :: _, _, _ => some (.notice k)
  | [], r :: _, _ => some (.report r)
  | [], [], b :: _ => some (.brief b)
  | [], [], [] => answerChoice s

/-- The arbiter's choice (R125): none while the link is not UP, no credit is held or nothing waits. -/
def outboundChoice (s : State) : Option Sending :=
  if s.initPort.link = .up ∧ 1 ≤ s.initPort.credit then
    if s.runCount = Config.maxRun ∧ s.answers ≠ [] then answerChoice s else preference s
  else none

/-- The run count after sending a packet other than a slot answer (R125). -/
def runCountAfterOther (s : State) : Nat := if s.answers = [] then 0 else min (s.runCount + 1) Config.maxRun

/-- The sending finishes the slot: LAPSED when it was LAPSING with a completion still expected, else FREE (R121). -/
def finishSlot (n : SlotNo) (s : State) : State :=
  if (s.slot n).state = .lapsing ∧ (s.slot n).completionExpected = true then lapseSlot n s else freeSlot n s

/-- The sending of the slot answer of n (R121, R126); a slot on the answer list has an answer (R120; log 21). -/
def sendAnswer (n : SlotNo) (s : State) : State :=
  match (s.slot n).answer with
  | none => s
  | some a => { finishSlot n (transmit .initiator (answerPacket (s.slot n) a) s) with runCount := 0 }

/-- One sending (R126). -/
def sendChosen (c : Sending) (s : State) : State :=
  match c with
  | .notice k => { transmit .initiator (noticePacket s k) s with notices := s.notices.tail, runCount := runCountAfterOther s }
  | .report r => { transmit .initiator (reportPacket r) s with reports := s.reports.tail, runCount := runCountAfterOther s }
  | .brief b => { transmit .initiator (briefPacket b) s with brief := s.brief.tail, runCount := runCountAfterOther s }
  | .answer n => sendAnswer n s

/-- OUTBOUND_SENDING (R125, R126). -/
def execOutboundSending (s : State) : Result :=
  .next (match outboundChoice s with
    | none => s
    | some c => sendChosen c s)

end Sys2Proof.Machine
end

