-- ==== Sys2Proof/Machine/Engine.lean ====
section
/-! DEFINITION. The management engine (spec/09): beginning a batch, taking its next record, stopping and finishing it. What a record does is in Machine/Records.lean. -/

namespace Sys2Proof.Machine

/-! ## The next position -/

/-- What stands at a batch's next position, once parsed, ordered and keyed (R134 to R136). -/
inductive Action where
  | missingEnd
  | endMarker
  | malformed
  | outOfOrder (r : Record)
  | badKey (r : Record)
  | owned (op : RecordOp) (r : Record)
  deriving DecidableEq, Repr

/-- The record's key is below the last keyed record's (R135). -/
def outOfOrder (b : Batch) (r : Record) : Bool :=
  match b.lastKey with
  | none => false
  | some k => keyBelow (r.table, r.index) k

/-- The bytes from a batch's next position on. -/
def Batch.rest (b : Batch) : List Byte := b.bytes.drop b.offset

/-- What the engine finds at the next position (R134), after the key order check (R135) and the engine's own two checks (R136). -/
def Batch.nextAction (b : Batch) : Action :=
  match findRecord b.position b.rest with
  | .missingEnd => .missingEnd
  | .endMarker => .endMarker
  | .malformed => .malformed
  | .keyed r =>
    if outOfOrder b r then .outOfOrder r
    else
      match r.owner with
      | some op => .owned op r
      | none => .badKey r

/-- The batch that the engine applies, with what stands at its next position; none while the engine is idle. -/
def currentAction (s : State) : Option (Batch × Action) :=
  match s.engine, s.batches with
  | .applying, b :: _ => some (b, b.nextAction)
  | _, _ => none

/-! ## Progress -/

/-- A record of the batch is taken: its entry, its key and its count, and the next position (R132, R135, R139). -/
def Batch.took (b : Batch) (r : Record) (st : Status) (data : List Byte) : Batch :=
  { b with
    position := b.position + 1
    offset := b.offset + r.size
    lastKey := some (r.table, r.index)
    entries := b.entries ++ [{ status := st, data := data }]
    applied := b.applied + 1 }

/-- The head batch replaced. -/
def setHeadBatch (b : Batch) (s : State) : State := { s with batches := b :: s.batches.tail }

/-- The walk of the later positions after a stop: one NOT APPLIED for each keyed record up to position 31 and for an END up to 32 (R138).
The first argument bounds the positions left. -/
def walk : Nat → Nat → List Byte → List ReportEntry
  | 0, _, _ => []
  | n + 1, position, bytes =>
    match findRecord position bytes with
    | .missingEnd => []
    | .malformed => []
    | .endMarker => [{ status := .notApplied, data := [] }]
    | .keyed r => { status := .notApplied, data := [] } :: walk n (position + 1) (bytes.drop r.size)

/-- The REPORT of a batch (R139). -/
def Batch.report (b : Batch) : Report :=
  { source := b.source, tag := b.tag, applied := b.applied, entries := b.entries }

/-- The batch finishes: its REPORT joins the report queue, it leaves the batch queue and the engine is idle (R139). -/
def finishBatch (b : Batch) (s : State) : State :=
  { s with reports := s.reports ++ [b.report], batches := s.batches.tail, engine := .idle }

/-- A batch that stops with an entry at its position, and then walks the bytes from a later position on (R138). -/
def Batch.stopAt (b : Batch) (st : Status) (later : List ReportEntry) : Batch :=
  { b with stopped := true, entries := b.entries ++ [{ status := st, data := [] }] ++ later }

/-- The walk behind a record that the batch stops at (R138). -/
def Batch.walkBehind (b : Batch) (r : Record) : List ReportEntry :=
  walk Config.lastPosition (b.position + 1) (b.bytes.drop (b.offset + r.size))

/-! ## Taking a record -/

/-- What a rule makes of a record: the state, the status and the data of a READ reported DONE. -/
structure Ruling where
  state : State
  status : Status
  data : List Byte
  deriving DecidableEq, Repr

/-- A record reported DONE. -/
def ruledDone (s : State) : Ruling := { state := s, status := .done, data := [] }
/-- A READ reported DONE with its data (R140). -/
def ruledRead (s : State) (data : List Byte) : Ruling := { state := s, status := .done, data := data }
/-- A record refused with a status: it changes nothing (R136). -/
def ruledRefused (s : State) (st : Status) : Ruling := { state := s, status := st, data := [] }

/-- The event of a record row: the record at the next position is taken when it is the row's (R132, R136; log 1). -/
def takeRecord (op : RecordOp) (rule : Record → State → Ruling) (s : State) : State :=
  match currentAction s with
  | some (b, .owned op' r) =>
    if op' = op then
      let x := rule r s
      setHeadBatch (b.took r x.status x.data) x.state
    else s
  | _ => s

/-- The event of the RESTART row: a RESTART reported DONE also stops its batch (R141). -/
def takeRestart (rule : Record → State → Ruling) (s : State) : State :=
  match currentAction s with
  | some (b, .owned .restart r) =>
    let x := rule r s
    if x.status = .done then
      finishBatch { (b.stopAt .done (b.walkBehind r)) with applied := b.applied + 1 } x.state
    else setHeadBatch (b.took r x.status x.data) x.state
  | _ => s

/-! ## BATCH_BEGIN, END and BAD_KEY -/

/-- The batch at its beginning (R132). -/
def Batch.begun (b : Batch) : Batch := { b with position := 1, offset := 0, lastKey := none }

/-- BATCH_BEGIN (R132): the engine is idle, a batch is queued and fewer than 4 REPORTs are queued. -/
def execBatchBegin (s : State) : Result :=
  .next (match s.engine, s.batches with
    | .idle, b :: _ => if s.reports.length < Config.reportCapacity then { setHeadBatch b.begun s with engine := .applying } else s
    | _, _ => s)

/-- A position that reports MISSING END: nothing is left to walk (R134, R138). -/
def stopMissingEnd (b : Batch) (s : State) : State := finishBatch (b.stopAt .missingEnd []) s
/-- A position that reports MALFORMED: the bytes behind it cannot be divided into records (R134, R138). -/
def stopMalformed (b : Batch) (s : State) : State := finishBatch (b.stopAt .malformed []) s

/-- END (R139), and the two ways a position can fail to hold a record (R134; log 14). -/
def execEndMarker (s : State) : Result :=
  .next (match currentAction s with
    | some (b, .endMarker) => finishBatch { b with entries := b.entries ++ [{ status := .done, data := [] }] } s
    | some (b, .missingEnd) => stopMissingEnd b s
    | some (b, .malformed) => stopMalformed b s
    | _ => s)

/-- BAD_KEY (R136), OUT OF ORDER (R135), and the two ways a position can fail to hold a record (R134; log 14). -/
def execBadKey (s : State) : Result :=
  .next (match currentAction s with
    | some (b, .badKey r) => setHeadBatch (b.took r .badKey []) s
    | some (b, .outOfOrder r) => finishBatch (b.stopAt .outOfOrder (b.walkBehind r)) s
    | some (b, .missingEnd) => stopMissingEnd b s
    | some (b, .malformed) => stopMalformed b s
    | _ => s)

end Sys2Proof.Machine
end

