-- ==== Sys2Proof/Machine/Tables.lean ====
section
/-! DEFINITION. The management records of the lookup tables (spec/10): source entries, stream entries, domain descriptors, DRAIN and REOPEN. -/

namespace Sys2Proof.Machine

/-! ## Source entries -/

/-- An unfaulted entry in state MANAGER (R144, R146). -/
def SourceEntry.goodManager (e : SourceEntry) : Bool := e.codeMatches && e.state = .manager

/-- Some other source entry is an unfaulted MANAGER (R146). -/
def otherManager (s : State) (i : SourceNo) : Bool :=
  (List.range Config.numSources).any (fun j => j != i.toNat && (s.sources.get SourceEntry.reset j).goodManager)

/-- The value of a source WRITE: state, class and limit; none where it is BAD VALUE (R146, R175). -/
def readSourceValue : List Byte → Option SourceContents
  | [st, cl, l1, l0] =>
    match readSourceState st, readClass cl with
    | some state, some cls =>
      if readTwo l1 l0 ≤ Config.maxLimit then some { state := state, cls := cls, limit := readTwo l1 l0 } else none
    | _, _ => none
  | _ => none

/-- A WRITE of a source entry (R146). -/
def ruleSourceWrite (r : Record) (s : State) : Ruling :=
  let i : SourceNo := BitVec.ofNat 6 r.index
  match readSourceValue r.value with
  | none => ruledRefused s .badValue
  | some c =>
    if (s.source i).state = .manager ∧ c.state ≠ .manager ∧ otherManager s i = false then ruledRefused s .lastManager
    else if c.state ≠ .manager ∧ i = s.noticeTarget then ruledRefused s .isTarget
    else ruledDone (raise .privilegeChange (numberDetail i.toNat)
      (modifySource i (fun e => { e with toSourceContents := c, codeMatches := true }) s))

/-- A READ of a source entry (R147). -/
def ruleSourceRead (r : Record) (s : State) : Ruling :=
  let e := s.source (BitVec.ofNat 6 r.index)
  match readView 2 r.value with
  | none => ruledRefused s .badValue
  | some v =>
    if e.codeMatches = false then ruledRefused s .faulted
    else if v = 0 then
      ruledRead s ([sourceStateCode e.state, classCode e.cls] ++ twoBytes e.limit ++ twoBytes e.outstanding)
    else ruledRead s (fourBytes e.admitted ++ fourBytes e.refused)

/-! ## Stream entries -/

/-- The value of a stream WRITE: the seven written fields; none where it is BAD VALUE (R148, R175). -/
def readStreamValue : List Byte → Option StreamContents
  | [v, tg, gg, pr, a, b, sel] =>
    match readYesNo v, readAccess a, readAccess b with
    | some valid, some accessA, some accessB =>
      if pr.toNat ≤ 7 ∧ sel.toNat ≤ 15 then
        some { valid := valid, takeGate := tg, giveGate := gg, priority := pr.extractLsb' 0 3,
               accessA := accessA, accessB := accessB, selector := sel.extractLsb' 0 4 }
      else none
    | _, _, _ => none
  | _ => none

/-- A WRITE of a stream entry: stored with a fresh code, the seen flag cleared (R148). -/
def ruleStreamWrite (r : Record) (s : State) : Ruling :=
  let i : StreamIndex := BitVec.ofNat 11 r.index
  match readStreamValue r.value with
  | none => ruledRefused s .badValue
  | some c => ruledDone (s.setStream i { toStreamContents := c, seen := false, codeMatches := true })

/-- A READ of a stream entry (R148). -/
def ruleStreamRead (r : Record) (s : State) : Ruling :=
  let e := s.stream (BitVec.ofNat 11 r.index)
  if r.value ≠ [] then ruledRefused s .badValue
  else if e.codeMatches = false then ruledRefused s .faulted
  else ruledRead s [yesNo e.valid, e.takeGate, e.giveGate, byteOf e.priority.toNat, accessCode e.accessA,
    accessCode e.accessB, byteOf e.selector.toNat, yesNo e.seen]

/-! ## Domain descriptors -/

/-- The value of a domain WRITE: valid, base and size; none where it is BAD VALUE (R151, R175). -/
def readDomainValue : List Byte → Option (Bool × Nat × Nat)
  | [v, b1, b0, z1, z0] =>
    match readYesNo v with
    | some valid =>
      if readTwo b1 b0 < Config.numStreams ∧ 1 ≤ readTwo z1 z0 ∧ readTwo z1 z0 ≤ Config.maxDomainSize then
        some (valid, readTwo b1 b0, readTwo z1 z0)
      else none
    | none => none
  | _ => none

/-- Two index ranges, each a base and a size, share an index. -/
def rangesMeet (base size base' size' : Nat) : Bool := max base base' < min (base + size) (base' + size')

/-- The range runs past index 2,047, or shares an index with the stored range of another stored-valid descriptor (R151). -/
def overlaps (s : State) (d : DomainNo) (base size : Nat) : Bool :=
  Config.numStreams < base + size ||
    (List.range Config.numDomains).any (fun j =>
      let e := s.domains.get DomainEntry.reset j
      j != d.toNat && e.valid && rangesMeet base size e.base e.size)

/-- The descriptor is not in a state in which a WRITE is taken (R151). -/
def DomainEntry.writeBlocked (e : DomainEntry) : Bool :=
  if e.codeMatches then e.state = .opened || e.state = .draining else decide (0 < e.active)

/-- A WRITE of a domain descriptor (R151). -/
def ruleDomainWrite (r : Record) (s : State) : Ruling :=
  let d : DomainNo := BitVec.ofNat 2 r.index
  match readDomainValue r.value with
  | none => ruledRefused s .badValue
  | some (valid, base, size) =>
    if (s.domain d).writeBlocked then ruledRefused s .wrongState
    else if valid && overlaps s d base size then ruledRefused s .overlap
    else ruledDone (modifyDomain d (fun e =>
      { e with valid := valid, base := base, size := size, state := .closed, mode := none, codeMatches := true }) s)

/-- A READ of a domain descriptor (R150). -/
def ruleDomainRead (r : Record) (s : State) : Ruling :=
  let e := s.domain (BitVec.ofNat 2 r.index)
  if r.value ≠ [] then ruledRefused s .badValue
  else if e.codeMatches = false then ruledRefused s .faulted
  else ruledRead s ([domainStateCode e.state, yesNo e.valid] ++ twoBytes e.base ++ twoBytes e.size ++ twoBytes e.active
    ++ [drainModeCode e.mode])

/-! ## DRAIN and REOPEN -/

/-- All gate numbers in ascending order. -/
def allGates : List GateNo := (List.range Config.numGates).map (BitVec.ofNat 8)

/-- The HELD slots of a domain: gate by gate in ascending gate number, in queue order within each (R153 step 1). -/
def heldOfDomain (s : State) (d : DomainNo) : List SlotNo :=
  (allGates.flatMap (fun g => (s.gate g).holdQueue)).filter (fun n => (s.slot n).domain = d)

/-- The LADDERED slots of a domain: level 0 to level 7, head to tail within each (R153 step 2). -/
def ladderedOfDomain (s : State) (d : DomainNo) : List SlotNo :=
  (([0, 1, 2, 3, 4, 5, 6, 7] : List Level).flatMap s.level).filter (fun n => (s.slot n).domain = d)

/-- Each of the given HELD slots closed DRAINED, one after another (R153 step 1). -/
def flushHeld : List SlotNo → State → State
  | [], s => s
  | n :: ns, s => flushHeld ns (closeHeld .drained .deferred n s)

/-- Each of the given LADDERED slots closed DRAINED, one after another (R153 step 2). -/
def flushLaddered : List SlotNo → State → State
  | [], s => s
  | n :: ns, s => flushLaddered ns (closeLaddered .drained .deferred n s)

/-- The flush of a domain (R153): held slots, then laddered slots, then the give-backs. -/
def flushDomain (d : DomainNo) (s : State) : State :=
  let ladder := ladderedOfDomain s d
  let s1 := flushLaddered ladder (flushHeld (heldOfDomain s d) s)
  giveEach .noSender .atOnce (ladder.map (fun n => (s.slot n).takeGate)) s1

/-- The value of a DRAIN: its mode; none where it is BAD VALUE (R152, R175). -/
def readDrainValue : List Byte → Option DrainMode
  | [m] => readDrainMode m
  | _ => none

/-- A descriptor that a DRAIN finds valid, OPEN and unfaulted (R152). -/
def DomainEntry.drainable (e : DomainEntry) : Bool := e.valid && e.codeMatches && e.state = .opened

/-- A DRAIN taken (R152): DRAINING with the mode and a fresh code, the flush in FLUSH mode, and the completion when the active count is 0. -/
def beginDrain (d : DomainNo) (m : DrainMode) (s : State) : State :=
  let s1 := modifyDomain d (fun e => { e with state := .draining, mode := some m, codeMatches := true }) s
  match m with
  | .wait => completeDrain d s1
  | .flush => completeDrain d (flushDomain d s1)

/-- DRAIN (R152). -/
def ruleDrain (r : Record) (s : State) : Ruling :=
  let d : DomainNo := BitVec.ofNat 2 r.index
  match readDrainValue r.value with
  | none => ruledRefused s .badValue
  | some m => if (s.domain d).drainable then ruledDone (beginDrain d m s) else ruledRefused s .wrongState

/-- A descriptor that a REOPEN finds valid, unfaulted and CLOSED (R156). -/
def DomainEntry.reopenable (e : DomainEntry) : Bool := e.valid && e.codeMatches && e.state = .closed

/-- REOPEN (R156). -/
def ruleReopen (r : Record) (s : State) : Ruling :=
  let d : DomainNo := BitVec.ofNat 2 r.index
  if r.value ≠ [] then ruledRefused s .badValue
  else if (s.domain d).reopenable then
    ruledDone (modifyDomain d (fun e => { e with state := .opened, codeMatches := true }) s)
  else ruledRefused s .wrongState

/-! ## The rows -/

/-- SOURCE_WRITE (R146). -/
def execSourceWrite (s : State) : Result := .next (takeRecord .sourceWrite ruleSourceWrite s)
/-- SOURCE_READ (R147). -/
def execSourceRead (s : State) : Result := .next (takeRecord .sourceRead ruleSourceRead s)
/-- DOMAIN_WRITE (R151). -/
def execDomainWrite (s : State) : Result := .next (takeRecord .domainWrite ruleDomainWrite s)
/-- DOMAIN_READ (R150). -/
def execDomainRead (s : State) : Result := .next (takeRecord .domainRead ruleDomainRead s)
/-- DRAIN (R152). -/
def execDrain (s : State) : Result := .next (takeRecord .drain ruleDrain s)
/-- REOPEN (R156). -/
def execReopen (s : State) : Result := .next (takeRecord .reopen ruleReopen s)
/-- STREAM_WRITE (R148). -/
def execStreamWrite (s : State) : Result := .next (takeRecord .streamWrite ruleStreamWrite s)
/-- STREAM_READ (R148). -/
def execStreamRead (s : State) : Result := .next (takeRecord .streamRead ruleStreamRead s)

end Sys2Proof.Machine
end

