-- ==== Sys2Proof/Machine/Records.lean ====
section
/-! DEFINITION. The management records of gates (spec/01), deadlines (spec/06), conditions (spec/11), device settings (spec/04, 07, 10), slots (spec/02, 05) and RESTART (spec/09). -/

namespace Sys2Proof.Machine

/-! ## Gates -/

/-- The value of a gate WRITE: valid, ceiling, placement and selector; none where it is BAD VALUE (R13, R175). -/
def readGateValue : List Byte → Option (Bool × Nat × Placement × Selector)
  | [v, c1, c0, pl, sel] =>
    match readYesNo v, readPlacement pl with
    | some valid, some placement =>
      if 1 ≤ readTwo c1 c0 ∧ readTwo c1 c0 ≤ Config.maxCeiling ∧ sel.toNat ≤ 15 then
        some (valid, readTwo c1 c0, placement, sel.extractLsb' 0 4)
      else none
    | _, _ => none
  | _ => none

/-- The allowance after a gate WRITE, by the old and new validity: the table of R13. -/
def allowanceAfterWrite (g : Gate) (valid : Bool) (ceiling : Nat) : Nat :=
  match g.valid, valid with
  | false, false => 0
  | false, true => ceiling
  | true, false => 0
  | true, true => min g.allowance ceiling

/-- A WRITE of a gate (R13). -/
def ruleGateWrite (r : Record) (s : State) : Ruling :=
  let i : GateNo := BitVec.ofNat 8 r.index
  match readGateValue r.value with
  | none => ruledRefused s .badValue
  | some (valid, ceiling, placement, selector) =>
    if (s.gate i).valid = true ∧ valid = false ∧ 0 < (s.gate i).references then ruledRefused s .wrongState
    else ruledDone (modifyGate i (fun g =>
      { g with valid := valid, ceiling := ceiling, placement := placement, selector := selector,
               allowance := allowanceAfterWrite g valid ceiling }) s)

/-- View 2's head slot: whether the hold queue has one, its number and its priority (R16, R175). -/
def headBytes (s : State) (g : Gate) : List Byte :=
  match g.holdQueue with
  | [] => [0, 0, 0, 0]
  | n :: _ => [1] ++ twoBytes n.toNat ++ [byteOf (s.slot n).priority.toNat]

/-- A READ of a gate (R16, R175). -/
def ruleGateRead (r : Record) (s : State) : Ruling :=
  let g := s.gate (BitVec.ofNat 8 r.index)
  match readView 3 r.value with
  | none => ruledRefused s .badValue
  | some v =>
    if v = 0 then
      ruledRead s ([yesNo g.valid] ++ twoBytes g.ceiling ++ twoBytes g.allowance
        ++ [placementCode g.placement, byteOf g.selector.toNat] ++ twoBytes g.holdCount ++ twoBytes g.references)
    else if v = 1 then
      ruledRead s (fourBytes g.takes ++ fourBytes g.gives ++ fourBytes g.holds ++ fourBytes g.expiries)
    else ruledRead s (fourBytes g.surplus ++ headBytes s g)

/-- The effect of SET ALLOWANCE v on a gate: the releases, then the allowance (R12). -/
def setAllowance (i : GateNo) (v : Nat) (s : State) : State :=
  let n := min v (s.gate i).holdCount
  modifyGate i (fun g => { g with allowance := v - n }) (releaseMany i n s)

/-- SET ALLOWANCE (R12). -/
def ruleSetAllowance (r : Record) (s : State) : Ruling :=
  let i : GateNo := BitVec.ofNat 8 r.index
  match r.value with
  | [v1, v0] =>
    if (s.gate i).ceiling < readTwo v1 v0 then ruledRefused s .badValue
    else if (s.gate i).valid = false then ruledRefused s .wrongState
    else ruledDone (setAllowance i (readTwo v1 v0) s)
  | _ => ruledRefused s .badValue

/-! ## Deadline table -/

/-- A WRITE of a deadline table entry (R96). -/
def ruleDeadlineWrite (r : Record) (s : State) : Ruling :=
  match r.value with
  | [d1, d0] => if r.index = 0 then ruledRefused s .wrongState else ruledDone (s.setDeadline (BitVec.ofNat 4 r.index) (d1 ++ d0))
  | _ => ruledRefused s .badValue

/-- A READ of a deadline table entry (R97). -/
def ruleDeadlineRead (r : Record) (s : State) : Ruling :=
  if r.value ≠ [] then ruledRefused s .badValue
  else ruledRead s (twoBytes (s.deadline (BitVec.ofNat 4 r.index)).toNat)

/-! ## Conditions -/

/-- The value of a condition WRITE: masked (1) or unmasked (0); none where it is BAD VALUE (R163, R175). -/
def readMaskValue : List Byte → Option Bool
  | [m] => readYesNo m
  | _ => none

/-- A WRITE of a condition entry's mask (R163). -/
def ruleConditionWrite (r : Record) (s : State) : Ruling :=
  match readMaskValue r.value with
  | none => ruledRefused s .badValue
  | some m => ruledDone (storeMask (CondKind.ofNumber r.index) m s)

/-- The data of a condition READ: flag, mask, count and detail, zero where absent (R165, R175; log 24). -/
def condBytes (c : CondEntry) : List Byte :=
  [yesNo c.flag, yesNo c.masked] ++ twoBytes c.count ++ fourBytes (c.detail.getD 0)

/-- A READ of a condition entry, which clears it in clear mode ON READ (R165). -/
def ruleConditionRead (r : Record) (s : State) : Ruling :=
  let k := CondKind.ofNumber r.index
  if r.value ≠ [] then ruledRefused s .badValue
  else
    match s.clearMode with
    | .onAcknowledge => ruledRead s (condBytes (s.cond k))
    | .onRead => ruledRead (clearCond k s) (condBytes (s.cond k))

/-- ACKNOWLEDGE (R164). -/
def ruleAcknowledge (r : Record) (s : State) : Ruling :=
  if r.value ≠ [] then ruledRefused s .badValue else ruledDone (clearCond (CondKind.ofNumber r.index) s)

/-! ## Device settings -/

/-- The value of a device WRITE: reserve, threshold, notice target and clear mode; none where it is BAD VALUE by itself (R157, R175). -/
def readDeviceValue : List Byte → Option (Nat × Nat × SourceNo × ClearMode)
  | [r1, r0, t1, t0, target, mode] =>
    match readClearMode mode with
    | some m =>
      if readTwo r1 r0 ≤ Config.maxReserve ∧ readTwo t1 t0 ≤ Config.maxSlotLow ∧ target.toNat ≤ 63 then
        some (readTwo r1 r0, readTwo t1 t0, target.extractLsb' 0 6, m)
      else none
    | none => none
  | _ => none

/-- A WRITE of the device settings (R157, R110). -/
def ruleDeviceWrite (r : Record) (s : State) : Ruling :=
  match readDeviceValue r.value with
  | none => ruledRefused s .badValue
  | some (reserve, threshold, target, mode) =>
    if (s.source target).goodManager = false then ruledRefused s .badValue
    else if Config.numPages - reserve < s.txPages then ruledRefused s .reserveConflict
    else ruledDone { s with reserve := reserve, slotLow := threshold, noticeTarget := target, clearMode := mode }

/-- A READ of the device settings (R158, R175). -/
def ruleDeviceRead (r : Record) (s : State) : Ruling :=
  match readView 3 r.value with
  | none => ruledRefused s .badValue
  | some v =>
    if v = 0 then
      ruledRead s (twoBytes s.reserve ++ twoBytes s.slotLow
        ++ [byteOf s.noticeTarget.toNat, clearModeCode s.clearMode, dispatchCode s.dispatch] ++ fourBytes s.deviceTime)
    else if v = 1 then
      ruledRead s (twoBytes s.freeCount ++ twoBytes s.freePages ++ twoBytes s.txPages ++ twoBytes s.compPages)
    else
      ruledRead s [s.initPort.link.code, s.initPort.session, s.svcPort.link.code, s.svcPort.session,
        byteOf s.svcPort.credit, byteOf s.svcPort.creditLimit]

/-- The value of a DISPATCH: its mode; none where it is BAD VALUE (R72, R175). -/
def readDispatchValue : List Byte → Option DispatchState
  | [m] => readDispatch m
  | _ => none

/-- DISPATCH (R72). -/
def ruleDispatch (r : Record) (s : State) : Ruling :=
  match readDispatchValue r.value with
  | none => ruledRefused s .badValue
  | some d => ruledDone { s with dispatch := d }

/-- RESTART (R141). -/
def ruleRestart (r : Record) (s : State) : Ruling :=
  if r.value ≠ [] then ruledRefused s .badValue else ruledDone (restartBlocks s)

/-! ## Slots -/

/-- The flags byte of a slot (R175). -/
def slotFlags (x : Slot) : Byte :=
  (if x.giveOnCompletion then 1 else 0) + (if x.completionExpected then 2 else 0)

/-- View 0 of a slot (R35, R175). -/
def slotViewZero (x : Slot) : List Byte :=
  [slotStateCode x.state, slotKindCode x.kind, byteOf x.source.toNat, x.tag, byteOf x.domain.toNat]
    ++ twoBytes x.stream.toNat
    ++ [x.takeGate, x.giveGate, byteOf x.priority.toNat, byteOf x.selector.toNat, slotFlags x]

/-- The deadline that runs in a slot: its hold deadline or its service deadline (R98). -/
def runningDeadline (x : Slot) : Option Deadline :=
  match x.holdDeadline with
  | some d => some d
  | none => x.serviceDeadline

/-- Deadline present and deadline end (R175). -/
def deadlineBytes : Option Deadline → List Byte
  | none => [0, 0, 0, 0, 0]
  | some d => 1 :: fourBytes d.endTime

/-- Answer kind, close code or status, and completion length (R175). -/
def answerBytes : Option Answer → List Byte
  | none => [0, 0, 0, 0]
  | some (.result status payload _) => [1, status] ++ twoBytes payload.length
  | some .clear => [2, 0, 0, 0]
  | some (.close code) => [3, closeCodeValue code, 0, 0]

/-- The pages a slot holds now: its transaction pages and the completion pages of its RESULT (R35, R108; log 15). -/
def pagesHeld (x : Slot) : Nat := x.pages + Answer.heldPages x.answer

/-- View 1 of a slot (R35, R175). -/
def slotViewOne (x : Slot) : List Byte :=
  twoBytes x.payloadLength ++ [byteOf (pagesHeld x)] ++ fourBytes x.arrival ++ deadlineBytes (runningDeadline x)
    ++ answerBytes x.answer

/-- A READ of a slot; of a FREE slot every byte is zero (R35, R175; log 16). -/
def ruleSlotRead (r : Record) (s : State) : Ruling :=
  let x := s.slot (BitVec.ofNat 10 r.index)
  match readView 2 r.value with
  | none => ruledRefused s .badValue
  | some v =>
    if x.state = .free then ruledRead s (List.replicate (if v = 0 then 12 else 16) 0)
    else ruledRead s (if v = 0 then slotViewZero x else slotViewOne x)

/-- A WRITE addressed to the slot table is refused in every state of the slot (R35; log 26). -/
def ruleSlotWrite (_r : Record) (s : State) : Ruling := ruledRefused s .wrongState

/-- The value of a RECLAIM: whether a give is asked for; none where it is BAD VALUE (R88, R175). -/
def readGiveValue : List Byte → Option Bool
  | [g] => readYesNo g
  | _ => none

/-- RECLAIM (R88). -/
def ruleReclaim (r : Record) (s : State) : Ruling :=
  let n : SlotNo := BitVec.ofNat 10 r.index
  let x := s.slot n
  match readGiveValue r.value with
  | none => ruledRefused s .badValue
  | some asked =>
    if x.state ≠ .lapsed then ruledRefused s .wrongState
    else
      let s1 := freeSlot n s
      ruledDone (if asked && x.giveOnCompletion then give .noSender .atOnce x.giveGate s1 else s1)

/-! ## The rows -/

/-- GATE_WRITE (R13). -/
def execGateWrite (s : State) : Result := .next (takeRecord .gateWrite ruleGateWrite s)
/-- GATE_READ (R16). -/
def execGateRead (s : State) : Result := .next (takeRecord .gateRead ruleGateRead s)
/-- SET_ALLOWANCE (R12). -/
def execSetAllowance (s : State) : Result := .next (takeRecord .setAllowance ruleSetAllowance s)
/-- DEADLINE_WRITE (R96). -/
def execDeadlineWrite (s : State) : Result := .next (takeRecord .deadlineWrite ruleDeadlineWrite s)
/-- DEADLINE_READ (R97). -/
def execDeadlineRead (s : State) : Result := .next (takeRecord .deadlineRead ruleDeadlineRead s)
/-- CONDITION_WRITE (R163). -/
def execConditionWrite (s : State) : Result := .next (takeRecord .conditionWrite ruleConditionWrite s)
/-- CONDITION_READ (R165). -/
def execConditionRead (s : State) : Result := .next (takeRecord .conditionRead ruleConditionRead s)
/-- ACKNOWLEDGE (R164). -/
def execAcknowledge (s : State) : Result := .next (takeRecord .acknowledge ruleAcknowledge s)
/-- DEVICE_WRITE (R157). -/
def execDeviceWrite (s : State) : Result := .next (takeRecord .deviceWrite ruleDeviceWrite s)
/-- DEVICE_READ (R158). -/
def execDeviceRead (s : State) : Result := .next (takeRecord .deviceRead ruleDeviceRead s)
/-- DISPATCH (R72). -/
def execDispatch (s : State) : Result := .next (takeRecord .dispatch ruleDispatch s)
/-- RESTART (R141). -/
def execRestart (s : State) : Result := .next (takeRestart ruleRestart s)
/-- SLOT_READ (R35). -/
def execSlotRead (s : State) : Result := .next (takeRecord .slotRead ruleSlotRead s)
/-- SLOT_WRITE (R35). -/
def execSlotWrite (s : State) : Result := .next (takeRecord .slotWrite ruleSlotWrite s)
/-- RECLAIM (R88). -/
def execReclaim (s : State) : Result := .next (takeRecord .reclaim ruleReclaim s)

end Sys2Proof.Machine
end

