-- ==== Sys2Proof/Machine/Dispatch.lean ====
section
/-! DEFINITION. exec: one arm for each command, each the direct call of its meaning. -/

namespace Sys2Proof.Machine

/-- The effect of a command on everything but the queue of waiting commands. -/
def exec (i : Instr) (s : State) : Host.Outcome State Fault Refusal :=
  match i with
  | .transact => Sys2Proof.Machine.execTransact s
  | .await => Sys2Proof.Machine.execAwait s
  | .post => Sys2Proof.Machine.execPost s
  | .withdraw => Sys2Proof.Machine.execWithdraw s
  | .manage => Sys2Proof.Machine.execManage s
  | .forward => Sys2Proof.Machine.execForward s
  | .complete => Sys2Proof.Machine.execComplete s
  | .serviceLapse slot => Sys2Proof.Machine.execServiceLapse slot s
  | .holdExpiry slot => Sys2Proof.Machine.execHoldExpiry slot s
  | .outboundSending => Sys2Proof.Machine.execOutboundSending s
  | .forwardCreditReturn => Sys2Proof.Machine.execForwardCreditReturn s
  | .transmitCreditReturn => Sys2Proof.Machine.execTransmitCreditReturn s
  | .packetReceived port packet => Sys2Proof.Machine.execPacketReceived port packet s
  | .signallingDetected port => Sys2Proof.Machine.execSignallingDetected port s
  | .up port credit session => Sys2Proof.Machine.execUp port credit session s
  | .trainingFailure port => Sys2Proof.Machine.execTrainingFailure port s
  | .linkLoss port => Sys2Proof.Machine.execLinkLoss port s
  | .retrainRequest port => Sys2Proof.Machine.execRetrainRequest port s
  | .resetAssert => Sys2Proof.Machine.execResetAssert s
  | .resetRelease straps => Sys2Proof.Machine.execResetRelease straps s
  | .checkCodeMismatch entry => Sys2Proof.Machine.execCheckCodeMismatch entry s
  | .batchBegin => Sys2Proof.Machine.execBatchBegin s
  | .sourceWrite => Sys2Proof.Machine.execSourceWrite s
  | .sourceRead => Sys2Proof.Machine.execSourceRead s
  | .domainWrite => Sys2Proof.Machine.execDomainWrite s
  | .domainRead => Sys2Proof.Machine.execDomainRead s
  | .drain => Sys2Proof.Machine.execDrain s
  | .reopen => Sys2Proof.Machine.execReopen s
  | .streamWrite => Sys2Proof.Machine.execStreamWrite s
  | .streamRead => Sys2Proof.Machine.execStreamRead s
  | .gateWrite => Sys2Proof.Machine.execGateWrite s
  | .gateRead => Sys2Proof.Machine.execGateRead s
  | .setAllowance => Sys2Proof.Machine.execSetAllowance s
  | .deadlineWrite => Sys2Proof.Machine.execDeadlineWrite s
  | .deadlineRead => Sys2Proof.Machine.execDeadlineRead s
  | .conditionWrite => Sys2Proof.Machine.execConditionWrite s
  | .conditionRead => Sys2Proof.Machine.execConditionRead s
  | .acknowledge => Sys2Proof.Machine.execAcknowledge s
  | .deviceWrite => Sys2Proof.Machine.execDeviceWrite s
  | .deviceRead => Sys2Proof.Machine.execDeviceRead s
  | .dispatch => Sys2Proof.Machine.execDispatch s
  | .restart => Sys2Proof.Machine.execRestart s
  | .slotRead => Sys2Proof.Machine.execSlotRead s
  | .slotWrite => Sys2Proof.Machine.execSlotWrite s
  | .reclaim => Sys2Proof.Machine.execReclaim s
  | .endMarker => Sys2Proof.Machine.execEndMarker s
  | .badKey => Sys2Proof.Machine.execBadKey s
  | .deviceTimeTick => Sys2Proof.Machine.execDeviceTimeTick s

end Sys2Proof.Machine
end

