-- ==== Sys2Proof/Safety.lean ====
section
/-! DEFINITION. The laws of the device as predicates over the state (the canonical form of the tables, R2, R3, R24, R29, R31 to R33, R108, R109, R122 to R125, R131, R146, R149, R160, R177), and the relations between two states in which statements say what one part of an event does. -/

namespace Sys2Proof.Machine

/-! ## The tables' canonical form -/

/-- A numbered table in its canonical form that lists only numbers below a bound. -/
structure Table.Canonical {α : Type} (d : α) (bound : Nat) (t : Table α) : Prop where
  wf : Table.Wf d t
  within : ∀ e ∈ t, e.1 < bound

/-- Every numbered table is in its canonical form and lists only numbers that exist: equal tables are equal data. -/
structure TablesCanonical (s : State) : Prop where
  sources : Table.Canonical SourceEntry.reset 64 s.sources
  domains : Table.Canonical DomainEntry.reset 4 s.domains
  streams : Table.Canonical StreamEntry.reset 2048 s.streams
  gates : Table.Canonical Gate.reset 256 s.gates
  slots : Table.Canonical Slot.reset 1024 s.slots
  tagIndex : Table.Canonical none 16384 s.tagIndex
  ladder : Table.Canonical [] 8 s.ladder
  deadlines : Table.Canonical 0 16 s.deadlines
  conditions : Table.Canonical CondEntry.reset 11 s.conditions

/-! ## Gates (R1, R2, R13, R14) -/

/-- The laws of one gate: a ceiling from 1 to 4,095, an allowance within it, no free unit beside a waiting slot, and an invalid gate without units, waiters or claims. -/
structure Gate.Lawful (g : Gate) : Prop where
  ceiling : 1 ≤ g.ceiling ∧ g.ceiling ≤ 4095
  allowance : g.allowance ≤ g.ceiling
  exclusive : 0 < g.allowance → g.holdQueue = []
  invalid : g.valid = false → g.allowance = 0 ∧ g.holdQueue = [] ∧ g.references = 0

/-- The gate laws (R2). -/
def GatesLawful (s : State) : Prop := ∀ g : GateNo, (s.gate g).Lawful

/-! ## Slots (R23, R24, R36, R80, R98) -/

/-- What the state of a slot says of its other fields. -/
structure Slot.Shaped (x : Slot) : Prop where
  free : x.state = .free → x = Slot.reset
  await : x.kind = .await → x.state = .free ∨ x.state = .held ∨ x.state = .answering
  answer : x.answer ≠ none ↔ x.state = .answering ∨ x.state = .lapsing
  lapsing : x.state = .lapsing → x.answer = some (.close .lapsed)
  holdDeadline : x.holdDeadline ≠ none → x.state = .held
  serviceDeadline : x.serviceDeadline ≠ none → x.state = .serving
  pages : x.pages = pagesOf x.payload.length
  payload : x.payload ≠ [] → x.state = .held ∨ x.state = .laddered
  payloadLength : x.payloadLength ≤ 512
  waiting : x.state = .held ∨ x.state = .laddered →
    x.payload.length = x.payloadLength ∧ (x.giveOnCompletion = true ↔ x.kind = .transact)
  result : ∀ status payload p, x.answer = some (.result status payload p) → p = pagesOf payload.length ∧ payload.length ≤ 512
  serving : x.state = .serving → x.giveOnCompletion = true ∧ x.completionExpected = true

/-- Every slot record fits its state. -/
def SlotsShaped (s : State) : Prop := ∀ n : SlotNo, (s.slot n).Shaped

/-- Every slot stands in exactly the collection of its state (R3, R24, R63, R120). -/
structure Collected (s : State) : Prop where
  held : ∀ (n : SlotNo) (g : GateNo), n ∈ (s.gate g).holdQueue ↔ (s.slot n).state = .held ∧ (s.slot n).takeGate = g
  laddered : ∀ (n : SlotNo) (l : Level), n ∈ s.level l ↔ (s.slot n).state = .laddered ∧ (s.slot n).priority = l
  answers : ∀ n : SlotNo, n ∈ s.answers ↔ (s.slot n).state = .answering ∨ (s.slot n).state = .lapsing
  heldOnce : ∀ g : GateNo, (s.gate g).holdQueue.Nodup
  ladderedOnce : ∀ l : Level, (s.level l).Nodup
  answersOnce : s.answers.Nodup

/-- Every hold queue is ordered by priority level, highest first (R3). -/
def QueuesOrdered (s : State) : Prop :=
  ∀ g : GateNo, (s.gate g).holdQueue.Pairwise (fun n m => (s.slot n).priority.toNat ≤ (s.slot m).priority.toNat)

/-! ## Tag index and counts (R29, R31, R32, R33) -/

/-- The tag index holds exactly the slots in HELD to LAPSING (R29). -/
def TagsIndexed (s : State) : Prop :=
  ∀ (src : SourceNo) (tag : Byte) (n : SlotNo),
    s.tagged src tag = some n ↔ (s.slot n).state.indexed = true ∧ (s.slot n).source = src ∧ (s.slot n).tag = tag

/-- The claims that one slot holds on a gate (R33). -/
def Slot.claimsOn (g : GateNo) (x : Slot) : Nat :=
  if x.state = .free then 0 else (if x.takeGate = g then 1 else 0) + (if x.giveGate = g then 1 else 0)

/-- The counts of sources, domains and gates are those of the slots (R31, R32, R33). -/
structure Counted (s : State) : Prop where
  outstanding : ∀ i : SourceNo,
    (s.source i).outstanding = s.slots.countP (fun e => e.2.state.indexed && e.2.source == i)
  active : ∀ d : DomainNo, (s.domain d).active = s.slots.countP (fun e => e.2.state.counted && e.2.domain == d)
  references : ∀ g : GateNo, (s.gate g).references = (s.slots.map (fun e => e.2.claimsOn g)).sum

/-! ## Pages (R108, R109) -/

/-- The three uses add up to 4,096, transaction use stays within the reserve's bound, and both uses are those of the slots (R108, R109, R117). -/
structure PagesKept (s : State) : Prop where
  total : s.freePages + s.txPages + s.compPages = 4096
  reserve : s.reserve ≤ 2048
  bound : s.txPages + s.reserve ≤ 4096
  transaction : s.txPages = (s.slots.map (fun e => e.2.pages)).sum
  completion : s.compPages = (s.slots.map (fun e => Answer.heldPages e.2.answer)).sum

/-! ## Queues -/

/-- The bounds of the queues and of the run count (R122, R123, R125, R131, R168). -/
structure QueuesBounded (s : State) : Prop where
  initRx : s.initPort.rx.length ≤ 16
  svcRx : s.svcPort.rx.length ≤ 16
  brief : s.brief.length ≤ 32
  reports : s.reports.length ≤ 4
  batches : s.batches.length ≤ 4
  run : s.runCount ≤ 8

/-- A batch of which no record has been taken (R131). -/
def Batch.Fresh (b : Batch) : Prop :=
  b.position = 1 ∧ b.offset = 0 ∧ b.lastKey = none ∧ b.stopped = false ∧ b.entries = [] ∧ b.applied = 0

/-- A batch that the engine applies: its entries and its records applied are those of the positions before the next, 1 to 32 (R134, R139). -/
def Batch.InProgress (b : Batch) : Prop :=
  1 ≤ b.position ∧ b.position ≤ 32 ∧ b.entries.length + 1 = b.position ∧ b.applied + 1 = b.position ∧
    b.stopped = false ∧ (b.lastKey = none ↔ b.position = 1)

/-- While the engine applies, the head batch is in progress and its REPORT will find room; every batch not yet begun is fresh (R123, R131, R132). -/
structure EngineLawful (s : State) : Prop where
  applying : s.engine = .applying →
    s.reports.length < 4 ∧ ∃ b rest, s.batches = b :: rest ∧ b.InProgress ∧ ∀ c ∈ rest, c.Fresh
  idle : s.engine = .idle → ∀ c ∈ s.batches, c.Fresh

/-- The laws of one port: the send credit stays within its limit of one byte; before the first UP nothing was granted, received or sent; after it the partner's credits and the packets in the receive buffer make up 16 (R65, R167, R168; log 10). -/
structure Port.Lawful (q : Port) : Prop where
  credit : q.credit ≤ q.creditLimit ∧ q.creditLimit ≤ 255
  before : q.announced = false → q.link ≠ .up ∧ q.session = 0 ∧ q.creditLimit = 0 ∧ q.rx = [] ∧ q.tx = []
  account : q.announced = true → q.partnerCredit + q.rx.length = 16

/-- The port laws, and the reset pin: while it is asserted both ports are DOWN (R177). -/
structure PortsLawful (s : State) : Prop where
  init : s.initPort.Lawful
  svc : s.svcPort.Lawful
  heldDown : s.resetAsserted = true → s.initPort.link = .down ∧ s.svcPort.link = .down

/-! ## Conditions and notices (R124, R160) -/

/-- The flag, the count and the detail are set and cleared together, and the count is bounded (R160). -/
def CondEntry.Lawful (c : CondEntry) : Prop :=
  c.count ≤ 65535 ∧ (c.flag = true ↔ 1 ≤ c.count) ∧ (c.flag = true ↔ c.detail ≠ none)

/-- The condition entries are lawful, at most one NOTICE of a kind is pending, and a pending kind's flag is set (R124, R160, R162). -/
structure ConditionsLawful (s : State) : Prop where
  entries : ∀ k : CondKind, (s.cond k).Lawful
  once : s.notices.Nodup
  flagged : ∀ k ∈ s.notices, (s.cond k).flag = true

/-! ## Tables -/

/-- The notice target's entry is in state MANAGER, unless a storage error has made it faulted (R146, R157, R162). -/
def TargetIsManager (s : State) : Prop :=
  (s.source s.noticeTarget).codeMatches = true → (s.source s.noticeTarget).state = .manager

/-- Deadline table entry 0 holds 0 (R95). -/
def EntryZeroUnlimited (s : State) : Prop := s.deadline 0 = 0

/-- A descriptor that is valid and unfaulted (R144, R149). -/
def DomainEntry.sound (e : DomainEntry) : Bool := e.valid && e.codeMatches

/-- The domain laws (R149): sound ranges lie in the stream store and do not meet; an unfaulted descriptor that is CLOSED or invalid has no active slot, and only a valid one is OPEN or DRAINING. -/
structure DomainsLawful (s : State) : Prop where
  inStore : ∀ d : DomainNo, (s.domain d).sound = true → (s.domain d).base + (s.domain d).size ≤ 2048
  apart : ∀ d e : DomainNo, d ≠ e → (s.domain d).sound = true → (s.domain e).sound = true →
    rangesMeet (s.domain d).base (s.domain d).size (s.domain e).base (s.domain e).size = false
  idle : ∀ d : DomainNo, (s.domain d).codeMatches = true → (s.domain d).state = .closed ∨ (s.domain d).valid = false →
    (s.domain d).active = 0
  invalidClosed : ∀ d : DomainNo, (s.domain d).codeMatches = true → (s.domain d).valid = false → (s.domain d).state = .closed
  mode : ∀ d : DomainNo, (s.domain d).codeMatches = true → ((s.domain d).mode ≠ none ↔ (s.domain d).state = .draining)
  draining : ∀ d : DomainNo, (s.domain d).codeMatches = true → (s.domain d).state = .draining → 0 < (s.domain d).active

/-! ## All laws -/

/-- The laws of the device together. -/
structure DeviceLaws (s : State) : Prop where
  canonical : TablesCanonical s
  gates : GatesLawful s
  shaped : SlotsShaped s
  collected : Collected s
  ordered : QueuesOrdered s
  tags : TagsIndexed s
  counted : Counted s
  pages : PagesKept s
  queues : QueuesBounded s
  engine : EngineLawful s
  ports : PortsLawful s
  conditions : ConditionsLawful s
  target : TargetIsManager s
  entryZero : EntryZeroUnlimited s
  domains : DomainsLawful s

/-! ## What one part of an event does

Each relation holds between the state before a part of an event and the state after it. It says what changes, and that nothing else does. -/

/-- A condition of kind k is raised with detail x (R161), and queues a NOTICE when it sets a clear flag of an unmasked entry (R162). -/
structure Raised (k : CondKind) (x : BitVec 32) (s t : State) : Prop where
  first : (s.cond k).flag = false → t.cond k = { s.cond k with flag := true, count := 1, detail := some x }
  again : (s.cond k).flag = true → t.cond k = { s.cond k with count := min ((s.cond k).count + 1) 65535 }
  others : ∀ j, j ≠ k → t.cond j = s.cond j
  queued : (s.cond k).flag = false → (s.cond k).masked = false → t.notices = s.notices ++ [k]
  silent : (s.cond k).flag = true ∨ (s.cond k).masked = true → t.notices = s.notices
  frame : t = { s with conditions := t.conditions, notices := t.notices }

/-- The entry of kind k is cleared and its pending NOTICE removed unsent, the mask kept (R164). -/
structure Cleared (k : CondKind) (s t : State) : Prop where
  entry : t.cond k = { flag := false, masked := (s.cond k).masked, count := 0, detail := none }
  others : ∀ j, j ≠ k → t.cond j = s.cond j
  notices : t.notices = s.notices.filter (fun j => j != k)
  frame : t = { s with conditions := t.conditions, notices := t.notices }

/-- Slot n comes to owe its final answer (R36, R98, R120): no deadline runs in it, and it joins the tail of the answer list. -/
structure Owes (st : SlotState) (a : Answer) (n : SlotNo) (s t : State) : Prop where
  slot : t.slot n = { s.slot n with state := st, answer := some a, holdDeadline := none, serviceDeadline := none }
  others : ∀ m, m ≠ n → t.slot m = s.slot m
  answers : t.answers = s.answers ++ [n]
  frame : t = { s with slots := t.slots, answers := t.answers }

/-- The active count of domain d falls by one (R32); the fall completes the drain of an unfaulted DRAINING domain when it reaches 0 (R155, R144). -/
structure ActiveFell (d : DomainNo) (s t : State) : Prop where
  others : ∀ e, e ≠ d → t.domain e = s.domain e
  frame : t = { s with domains := t.domains, conditions := t.conditions, notices := t.notices }
  completes : (s.domain d).codeMatches = true → (s.domain d).state = .draining → (s.domain d).active - 1 = 0 →
    t.domain d = { s.domain d with active := 0, state := .closed, mode := none } ∧
      Raised .drainComplete (BitVec.ofNat 32 d.toNat) { s with domains := t.domains } t
  falls : (s.domain d).codeMatches = false ∨ (s.domain d).state ≠ .draining ∨ (s.domain d).active - 1 ≠ 0 →
    t.domain d = { s.domain d with active := (s.domain d).active - 1 } ∧ t.conditions = s.conditions ∧
      t.notices = s.notices

/-- The active count of domain d falls by one, and an end of its drain is not decided yet (R91, R153, R171: the event decides it after its other parts). -/
structure ActiveLowered (d : DomainNo) (s t : State) : Prop where
  domain : t.domain d = { s.domain d with active := (s.domain d).active - 1 }
  others : ∀ e, e ≠ d → t.domain e = s.domain e
  frame : t = { s with domains := t.domains }

/-- A fall of an active count whose report is made at once or deferred. -/
def Fell (r : FallReport) (d : DomainNo) (s t : State) : Prop :=
  match r with
  | .atOnce => ActiveFell d s t
  | .deferred => ActiveLowered d s t

/-- HELD slot n leaves its take gate's hold queue, the others keeping their order, and no give is made (R3, R10). -/
structure LeftQueue (n : SlotNo) (s t : State) : Prop where
  queue : t.gate (s.slot n).takeGate = { s.gate (s.slot n).takeGate with
    holdQueue := (s.gate (s.slot n).takeGate).holdQueue.filter (fun m => m != n) }
  others : ∀ g, g ≠ (s.slot n).takeGate → t.gate g = s.gate g
  frame : t = { s with gates := t.gates }

/-- LADDERED slot n leaves its ladder level, the others keeping their order (R63). -/
structure LeftLevel (n : SlotNo) (s t : State) : Prop where
  level : t.level (s.slot n).priority = (s.level (s.slot n).priority).filter (fun m => m != n)
  others : ∀ l, l ≠ (s.slot n).priority → t.level l = s.level l
  frame : t = { s with ladder := t.ladder }

/-- The transaction pages of slot n are freed; it keeps its payload length (R113). -/
structure PagesFreed (n : SlotNo) (s t : State) : Prop where
  slot : t.slot n = { s.slot n with pages := 0, payload := [] }
  others : ∀ m, m ≠ n → t.slot m = s.slot m
  free : t.freePages = s.freePages + (s.slot n).pages
  use : t.txPages = s.txPages - (s.slot n).pages
  frame : t = { s with slots := t.slots, freePages := t.freePages, txPages := t.txPages }

/-- Slot n ends its admission in FREE with the accounting of R27, and its record is discarded (R23). -/
structure Freed (n : SlotNo) (s t : State) : Prop where
  slot : t.slot n = Slot.reset
  others : ∀ m, m ≠ n → t.slot m = s.slot m
  gates : ∀ g, t.gate g = { s.gate g with
    holdQueue := if (s.slot n).state = .held ∧ g = (s.slot n).takeGate then
      (s.gate g).holdQueue.filter (fun m => m != n) else (s.gate g).holdQueue
    references := (s.gate g).references - (if g = (s.slot n).takeGate then 1 else 0)
      - (if g = (s.slot n).giveGate then 1 else 0) }
  levels : ∀ l, t.level l = if (s.slot n).state = .laddered ∧ l = (s.slot n).priority then
    (s.level l).filter (fun m => m != n) else s.level l
  answers : t.answers = if (s.slot n).state = .answering ∨ (s.slot n).state = .lapsing then
    s.answers.filter (fun m => m != n) else s.answers
  tags : ∀ src tag, t.tagged src tag =
    if (s.slot n).state.indexed = true ∧ src = (s.slot n).source ∧ tag = (s.slot n).tag then none else s.tagged src tag
  sources : ∀ i, t.source i = { s.source i with outstanding := (s.source i).outstanding -
    (if (s.slot n).state.indexed = true ∧ i = (s.slot n).source then 1 else 0) }
  domains : ∀ d, t.domain d = { s.domain d with active := (s.domain d).active -
    (if (s.slot n).state.counted = true ∧ d = (s.slot n).domain then 1 else 0) }
  free : t.freePages = s.freePages + (s.slot n).pages + Answer.heldPages (s.slot n).answer
  use : t.txPages = s.txPages - (s.slot n).pages ∧ t.compPages = s.compPages - Answer.heldPages (s.slot n).answer
  frame : t = { s with slots := t.slots, gates := t.gates, ladder := t.ladder, answers := t.answers,
                       tagIndex := t.tagIndex, sources := t.sources, domains := t.domains,
                       freePages := t.freePages, txPages := t.txPages, compPages := t.compPages }

/-- Slot n becomes LAPSED with the accounting of R28, from LAPSING: it keeps its claims and its two flags. -/
structure Lapsed (n : SlotNo) (s t : State) : Prop where
  slot : t.slot n = { s.slot n with state := .lapsed, answer := none, holdDeadline := none, serviceDeadline := none }
  others : ∀ m, m ≠ n → t.slot m = s.slot m
  answers : t.answers = s.answers.filter (fun m => m != n)
  tags : ∀ src tag, t.tagged src tag =
    if src = (s.slot n).source ∧ tag = (s.slot n).tag then none else s.tagged src tag
  sources : ∀ i, t.source i = { s.source i with outstanding := (s.source i).outstanding -
    (if i = (s.slot n).source then 1 else 0) }
  frame : t = { s with slots := t.slots, answers := t.answers, tagIndex := t.tagIndex, sources := t.sources }

/-- Slot n enters the ladder level of its priority at its tail or its head (R64). -/
structure Laddered (pl : Placement) (n : SlotNo) (s t : State) : Prop where
  slot : t.slot n = { s.slot n with state := .laddered, holdDeadline := none }
  others : ∀ m, m ≠ n → t.slot m = s.slot m
  level : t.level (s.slot n).priority =
    match pl with
    | .tail => s.level (s.slot n).priority ++ [n]
    | .head => n :: s.level (s.slot n).priority
  otherLevels : ∀ l, l ≠ (s.slot n).priority → t.level l = s.level l
  frame : t = { s with slots := t.slots, ladder := t.ladder }

/-- The head n of gate g's hold queue is released in a give that counts at the gate (R6, R7): a TRANSACT enters the ladder by the gate's placement, an AWAIT answers CLEAR and leaves the active count. -/
def Released (r : FallReport) (g : GateNo) (n : SlotNo) (q : List SlotNo) (s t : State) : Prop :=
  ∃ u : State,
    (u.gate g = { s.gate g with holdQueue := q, gives := (s.gate g).gives + 1 } ∧ (∀ h, h ≠ g → u.gate h = s.gate h) ∧
      u = { s with gates := u.gates }) ∧
    ((s.slot n).kind = .transact → Laddered (s.gate g).placement n u t) ∧
    ((s.slot n).kind = .await → ∃ v, Owes .answering .clear n u v ∧ Fell r (s.slot n).domain v t)

/-- One give to gate g (R6, R8); sender says whether the give has one. -/
structure Gave (r : FallReport) (sender : Bool) (g : GateNo) (s t : State) : Prop where
  waiting : ∀ n q, (s.gate g).holdQueue = n :: q → Released r g n q s t
  rises : (s.gate g).holdQueue = [] → (s.gate g).allowance < (s.gate g).ceiling →
    t.gate g = { s.gate g with allowance := (s.gate g).allowance + 1, gives := (s.gate g).gives + 1 } ∧
      (∀ h, h ≠ g → t.gate h = s.gate h) ∧ t = { s with gates := t.gates }
  surplus : (s.gate g).holdQueue = [] → (s.gate g).ceiling ≤ (s.gate g).allowance →
    t.gate g = { s.gate g with gives := (s.gate g).gives + 1, surplus := (s.gate g).surplus + 1 } ∧
      (∀ h, h ≠ g → t.gate h = s.gate h) ∧
      (sender = true → t = { s with gates := t.gates }) ∧
      (sender = false → Raised .surplusGive (BitVec.ofNat 32 g.toNat) { s with gates := t.gates } t)

/-- A give that an event makes or does not make. -/
def GaveIf (b : Bool) (g : GateNo) (s t : State) : Prop := if b = true then Gave .atOnce false g s t else t = s

/-- A packet is placed in a port's transmit path at the cost of one credit (R67, R126). -/
structure Transmitted (port : PortId) (p : Packet) (s t : State) : Prop where
  sent : t.port port = { s.port port with credit := (s.port port).credit - 1, tx := (s.port port).tx ++ [p] }
  frame : t = s.setPort port (t.port port)

/-- The oldest packet leaves a port's receive buffer and its receive credit is returned (R39, R76, R168). -/
structure TookOldest (port : PortId) (s t : State) : Prop where
  taken : t.port port = { s.port port with
    rx := (s.port port).rx.tail, partnerCredit := (s.port port).partnerCredit + 1
    signals := (s.port port).signals ++ [.creditReturn] }
  frame : t = s.setPort port (t.port port)

/-! ## Admission -/

/-- The flow of a packet passes checks 2 and 5 to 11 unfaulted (R40, R43 to R49). -/
structure FlowOpen (k : InKind) (p : Packet) (s : State) : Prop where
  source : (s.source p.source).codeMatches = true ∧ (s.source p.source).state ≠ .disabled
  domain : (s.domain p.domain).codeMatches = true ∧ (s.domain p.domain).valid = true
  admits : (s.domain p.domain).state = .opened ∨ ((s.domain p.domain).state = .draining ∧ k = .post)
  range : p.stream.toNat < (s.domain p.domain).size
  entry : (flowEntry s p).codeMatches = true ∧ (flowEntry s p).valid = true
  access : Access.permits (governingAccess s p) k = true
  giveGate : (s.gate (flowEntry s p).giveGate).valid = true

/-- The packet at the oldest position is a well-formed one of a kind, and an entry of the brief queue can be reserved (R39, R41). -/
structure Oldest (k : InKind) (p : Packet) (s : State) : Prop where
  rx : ∃ later, s.initPort.rx = p :: later
  reserved : s.brief.length < 32
  kind : p.kindCode = k.code
  wellFormed : malformed p = false

/-- Checks 12 to 15 and the take gate of check 11 (R49 to R53), with the slot that the pool gives out (R26). -/
structure SlotFree (p : Packet) (n : SlotNo) (s : State) : Prop where
  takeGate : (s.gate (flowEntry s p).takeGate).valid = true
  tag : s.tagged p.source p.tag = none
  limit : (s.source p.source).outstanding < (s.source p.source).limit
  lowest : (s.slot n).state = .free ∧ ∀ m : SlotNo, m.toNat < n.toNat → (s.slot m).state ≠ .free
  pages : p.payload.length = 0 ∨
    (s.txPages + (p.payload.length + 63) / 64 ≤ 4096 - s.reserve ∧ (p.payload.length + 63) / 64 ≤ s.freePages)

/-- The parts of an admission that gains slot n, but for the take (R55 parts 1 to 3, R56): pages, tag index, counts, claims, seen flag and the packet taken. -/
structure Admitted (p : Packet) (n : SlotNo) (s t : State) : Prop where
  rx : t.initPort = { s.initPort with
    rx := s.initPort.rx.tail, partnerCredit := s.initPort.partnerCredit + 1
    signals := s.initPort.signals ++ [.creditReturn] }
  free : t.freePages = s.freePages - (p.payload.length + 63) / 64
  use : t.txPages = s.txPages + (p.payload.length + 63) / 64
  tag : ∀ src tag, t.tagged src tag = if src = p.source ∧ tag = p.tag then some n else s.tagged src tag
  sources : ∀ i, t.source i = { s.source i with
    outstanding := (s.source i).outstanding + (if i = p.source then 1 else 0)
    admitted := (s.source i).admitted + (if i = p.source then 1 else 0) }
  seen : ∀ i, t.stream i = { s.stream i with seen := (s.stream i).seen || decide (i = flowIndex s p) }
  low : s.freeCount = s.slotLow + 1 →
    Raised .slotPoolLow (BitVec.ofNat 32 s.slotLow) s { s with conditions := t.conditions, notices := t.notices }
  notLow : s.freeCount ≠ s.slotLow + 1 → t.conditions = s.conditions ∧ t.notices = s.notices
  otherSlots : ∀ m, m ≠ n → t.slot m = s.slot m
  frame : t = { s with
    initPort := t.initPort, freePages := t.freePages, txPages := t.txPages, tagIndex := t.tagIndex
    sources := t.sources, streams := t.streams, conditions := t.conditions, notices := t.notices
    slots := t.slots, gates := t.gates, ladder := t.ladder, answers := t.answers, domains := t.domains }

/-- The record that an admission gives its slot, but for its state, hold deadline and answer (R23). -/
def admittedSlot (kind : SlotKind) (p : Packet) (s : State) : Slot :=
  { Slot.reset with
    kind := kind, source := p.source, tag := p.tag, domain := p.domain, stream := p.stream
    takeGate := (flowEntry s p).takeGate, giveGate := (flowEntry s p).giveGate
    priority := (flowEntry s p).priority, selector := (flowEntry s p).selector
    payloadLength := p.payload.length, payload := p.payload, pages := (p.payload.length + 63) / 64
    giveOnCompletion := kind = .transact, arrival := s.deviceTime }

/-- A gate record after a take request that names it as take gate, with the two claims of the new slot (R4, R5, R26). -/
def Gate.taken (x : Gate) (take give : Bool) (allowance : Nat) (q : List SlotNo) (held : Bool) : Gate :=
  { x with
    allowance := allowance
    holdQueue := q
    references := x.references + (if take then 1 else 0) + (if give then 1 else 0)
    takes := x.takes + (if take then 1 else 0)
    holds := x.holds + (if held then 1 else 0) }

/-! ## Management records -/

/-- The bytes of a keyed record (R174). -/
def recordBytes (table index : Nat) (kind : Byte) (value : List Byte) : List Byte :=
  [byteOf table] ++ twoBytes index ++ [kind, byteOf value.length] ++ value

/-- The engine applies batch b, whose next position, below 32, holds a keyed record in order (R132, R134, R135, R174). -/
structure AtRecord (s : State) (b : Batch) (table index : Nat) (kind : Byte) (value : List Byte) : Prop where
  applying : s.engine = .applying
  head : ∃ waiting, s.batches = b :: waiting
  position : b.position < 32
  tableFits : table < 255
  indexFits : index < 65536
  short : value.length ≤ 16
  bytes : ∃ later, b.bytes.drop b.offset = recordBytes table index kind value ++ later
  order : ∀ k, b.lastKey = some k → k.1 < table ∨ (k.1 = table ∧ k.2 ≤ index)

/-- The head batch after a keyed record has been taken and reported (R132, R135, R139). -/
def Batch.afterRecord (b : Batch) (table index : Nat) (value : List Byte) (st : Status) (data : List Byte) : Batch :=
  { b with
    position := b.position + 1, offset := b.offset + (5 + value.length), lastKey := some (table, index)
    entries := b.entries ++ [{ status := st, data := data }], applied := b.applied + 1 }

/-- The head of the batch queue replaced by the batch as it stands after a record. -/
def State.withHead (s : State) (b : Batch) : State := { s with batches := b :: s.batches.tail }


/-! ## More parts of events -/

/-- A port moves to a link state, and its LINK CHANGE is raised with the new state and the partner's session number as detail (R167, R159, R176). -/
def LinkMoved (p : PortId) (st : LinkState) (s t : State) : Prop :=
  Raised (linkCondition p) (st.code ++ (s.port p).session ++ (0 : BitVec 16)) (s.setPort p { s.port p with link := st }) t

/-- n gives with a sender to gate g, one after another (R17, R57). -/
def GaveTimes (g : GateNo) : Nat → State → State → Prop
  | 0, s, t => t = s
  | n + 1, s, t => ∃ u, Gave .atOnce true g s u ∧ GaveTimes g n u t

/-- Gives without a sender to each gate of a list, one after another (R17). -/
def GaveEach (r : FallReport) : List GateNo → State → State → Prop
  | [], s, t => t = s
  | g :: gs, s, t => ∃ u, Gave r false g s u ∧ GaveEach r gs u t

/-- n releases of the head of gate g's hold queue, one after another, each counted as a give (R12). -/
def ReleasedTimes (g : GateNo) : Nat → State → State → Prop
  | 0, s, t => t = s
  | n + 1, s, t => ∃ m q u, (s.gate g).holdQueue = m :: q ∧ Released .atOnce g m q s u ∧ ReleasedTimes g n u t

/-- Each HELD slot of a list is closed DRAINED, one after another (R153 step 1, R10). -/
def FlushedHeld (d : DomainNo) : List SlotNo → State → State → Prop
  | [], s, t => t = s
  | n :: ns, s, t => ∃ a b c u, LeftQueue n s a ∧ Owes .answering (.close .drained) n a b ∧ PagesFreed n b c ∧
      ActiveLowered d c u ∧ FlushedHeld d ns u t

/-- Each LADDERED slot of a list is closed DRAINED, one after another (R153 step 2, R70). -/
def FlushedLaddered (d : DomainNo) : List SlotNo → State → State → Prop
  | [], s, t => t = s
  | n :: ns, s, t => ∃ a b c u, LeftLevel n s a ∧ Owes .answering (.close .drained) n a b ∧ PagesFreed n b c ∧
      ActiveLowered d c u ∧ FlushedLaddered d ns u t

/-- The drain of an unfaulted DRAINING domain d whose active count is 0 completes (R155, R144), and else nothing changes. -/
structure DrainChecked (d : DomainNo) (s t : State) : Prop where
  others : ∀ e, e ≠ d → t.domain e = s.domain e
  completes : (s.domain d).codeMatches = true → (s.domain d).state = .draining → (s.domain d).active = 0 →
    t.domain d = { s.domain d with state := .closed, mode := none } ∧
      Raised .drainComplete (BitVec.ofNat 32 d.toNat) { s with domains := t.domains } t
  stays : (s.domain d).codeMatches = false ∨ (s.domain d).state ≠ .draining ∨ (s.domain d).active ≠ 0 → t = s

/-- The admitted counter of source i grows by one (R60). -/
structure CountsAdmitted (i : SourceNo) (s t : State) : Prop where
  sources : ∀ j, t.source j = { s.source j with admitted := (s.source j).admitted + (if j = i then 1 else 0) }
  frame : t = { s with sources := t.sources }

/-- A packet is refused: its REFUSE fills the reservation, the source's refused counter grows, and checks 9 and 15 raise their conditions (R42, R47, R53). -/
structure Refused (p : Packet) (r : Reason) (s t : State) : Prop where
  brief : t.brief = s.brief ++ [{
    source := p.source, tag := if r ≠ .malformed ∧ p.kindCode = 4 then p.b7 else p.b2
    domain := p.domain, stream := p.stream, body := .refuse r }]
  sources : ∀ j, t.source j = { s.source j with refused := (s.source j).refused + (if j = p.source then 1 else 0) }
  fault : r = .tableFault → Raised .tableFault
    (if (s.source p.source).codeMatches = false then BitVec.ofNat 32 (2 ^ 24 + p.source.toNat)
     else if (s.domain p.domain).codeMatches = false then BitVec.ofNat 32 (2 * 2 ^ 24 + p.domain.toNat)
     else BitVec.ofNat 32 (3 * 2 ^ 24 + (flowIndex s p).toNat))
    s { s with conditions := t.conditions, notices := t.notices }
  bufferLow : r = .noBuffer → Raised .bufferLow (BitVec.ofNat 32 p.source.toNat)
    s { s with conditions := t.conditions, notices := t.notices }
  quiet : r ≠ .tableFault → r ≠ .noBuffer → t.conditions = s.conditions ∧ t.notices = s.notices
  frame : t = { s with brief := t.brief, sources := t.sources, conditions := t.conditions, notices := t.notices }

/-- What each of the fifteen checks refuses (R40, R41, R43 to R53); a check that needs a field of a faulted entry is passed (R47). -/
def CheckFails (k : InKind) (p : Packet) (s : State) : Reason → Prop
  | .malformed => malformed p = true
  | .sourceDisabled => (s.source p.source).codeMatches = true ∧ (s.source p.source).state = .disabled
  | .notManager => k = .manage ∧ (s.source p.source).codeMatches = true ∧ (s.source p.source).state = .member
  | .busy => k = .manage ∧ 4 ≤ s.batches.length
  | .domainInvalid => k.isFlow = true ∧ (s.domain p.domain).codeMatches = true ∧ (s.domain p.domain).valid = false
  | .domainClosed => k.isFlow = true ∧ (s.domain p.domain).codeMatches = true ∧
      ((s.domain p.domain).state = .closed ∨ ((s.domain p.domain).state = .draining ∧ k ≠ .post))
  | .streamRange => k.isFlow = true ∧ (s.domain p.domain).codeMatches = true ∧ (s.domain p.domain).size ≤ p.stream.toNat
  | .streamInvalid => k.isFlow = true ∧ (s.domain p.domain).codeMatches = true ∧ (flowEntry s p).codeMatches = true ∧
      (flowEntry s p).valid = false
  | .tableFault => (s.source p.source).codeMatches = false ∨
      (k.isFlow = true ∧ ((s.domain p.domain).codeMatches = false ∨ (flowEntry s p).codeMatches = false))
  | .accessDenied => k.isFlow = true ∧ Access.permits (governingAccess s p) k = false
  | .gateInvalid => k.isFlow = true ∧ ((s.gate (flowEntry s p).giveGate).valid = false ∨
      (k.needsSlot = true ∧ (s.gate (flowEntry s p).takeGate).valid = false))
  | .duplicateTag => k.needsSlot = true ∧ s.tagged p.source p.tag ≠ none
  | .sourceLimit => k.needsSlot = true ∧ (s.source p.source).limit ≤ (s.source p.source).outstanding
  | .noSlot => k.needsSlot = true ∧ ∀ n : SlotNo, (s.slot n).state ≠ .free
  | .noBuffer => k = .transact ∧ p.payload.length ≠ 0 ∧
      (4096 - s.reserve < s.txPages + (p.payload.length + 63) / 64 ∨ s.freePages < (p.payload.length + 63) / 64)
  | .notFound => False
  | .inService => False
  | .answered => False

/-- The row of an inbound kind. -/
def InKind.row : InKind → Instr
  | .transact => .transact
  | .await => .await
  | .post => .post
  | .withdraw => .withdraw
  | .manage => .manage

/-- The inbound kind that gains a slot of a kind. -/
def SlotKind.inKind : SlotKind → InKind
  | .transact => .transact
  | .await => .await

/-- A well-formed COMPLETE (R87, R172, R173). -/
structure IsComplete (p : Packet) : Prop where
  kindAndDomain : p.b0 = 0x20
  source : p.b1 = 0
  streamHigh : p.b3.extractLsb' 0 6 = 0
  streamLow : p.b4 = 0
  length : p.lengthField ≤ 512 ∧ p.payload.length = p.lengthField

/-! ## Stopped batches -/

/-- The walk of R138 from a position adds k NOT APPLIED entries. -/
inductive Walks : Nat → List Byte → Nat → Prop
  | ends (position : Nat) (bytes : List Byte)
      (h : findRecord position bytes = .missingEnd ∨ findRecord position bytes = .malformed) : Walks position bytes 0
  | atEnd (position : Nat) (bytes : List Byte) (h : findRecord position bytes = .endMarker) : Walks position bytes 1
  | past (position : Nat) (bytes : List Byte) (r : Record) (k : Nat) (h : findRecord position bytes = .keyed r)
      (rest : Walks (position + 1) (bytes.drop (5 + r.value.length)) k) : Walks position bytes (k + 1)

/-- The head batch b finishes with k further NOT APPLIED entries after the entry of its last position: its REPORT is queued, it leaves the queue and the engine is idle (R138, R139). -/
def State.finished (s : State) (b : Batch) (applied : Nat) (last : Status) (k : Nat) : State :=
  { s with
    reports := s.reports ++ [{
      source := b.source, tag := b.tag, applied := applied
      entries := b.entries ++ [{ status := last, data := [] }] ++ List.replicate k { status := .notApplied, data := [] } }]
    batches := s.batches.tail
    engine := .idle }

/-- The keys and kinds that the tables take (the first table of R133). -/
def keyTakes (table index : Nat) (kind : Byte) : Bool :=
  match table with
  | 1 => index < 64 && [1, 2].contains kind
  | 2 => index < 4 && [1, 2, 4, 5].contains kind
  | 3 => index < 2048 && [1, 2].contains kind
  | 4 => index < 256 && [1, 2, 3].contains kind
  | 5 => index < 16 && [1, 2].contains kind
  | 6 => index < 11 && [1, 2, 7].contains kind
  | 7 => index < 1 && [1, 2, 8, 9].contains kind
  | 8 => index < 1024 && [1, 2, 6].contains kind
  | _ => false

/-- The bytes of a source WRITE (R175). -/
def sourceValue (c : SourceContents) : List Byte := [sourceStateCode c.state, classCode c.cls] ++ twoBytes c.limit
/-- The bytes of a domain WRITE (R175). -/
def domainValue (valid : Bool) (base size : Nat) : List Byte := [yesNo valid] ++ twoBytes base ++ twoBytes size
/-- The bytes of a stream WRITE (R175). -/
def streamValue (c : StreamContents) : List Byte :=
  [yesNo c.valid, c.takeGate, c.giveGate, byteOf c.priority.toNat, accessCode c.accessA, accessCode c.accessB,
    byteOf c.selector.toNat]
/-- The bytes of a gate WRITE (R175). -/
def gateValue (valid : Bool) (ceiling : Nat) (placement : Placement) (sel : Selector) : List Byte :=
  [yesNo valid] ++ twoBytes ceiling ++ [placementCode placement, byteOf sel.toNat]
/-- The bytes of a device WRITE (R175). -/
def deviceValue (reserve threshold : Nat) (target : SourceNo) (mode : ClearMode) : List Byte :=
  twoBytes reserve ++ twoBytes threshold ++ [byteOf target.toNat, clearModeCode mode]

/-! ## RESTART and the session changes -/

/-- All slot numbers in ascending order. -/
def everySlot : List SlotNo := (List.range 1024).map (BitVec.ofNat 10)

/-- What RESTART leaves in every block (the table of R141): R18, R37, R60, R71, R116, R130, R149, R166. -/
structure Restarted (s t : State) : Prop where
  kept : ∀ n, (s.slot n).state = .free → t.slot n = s.slot n
  freed : ∀ n, (s.slot n).state = .held ∨ (s.slot n).state = .laddered ∨ (s.slot n).state = .answering →
    t.slot n = Slot.reset
  lapsed : ∀ n, (s.slot n).state = .serving ∨ (s.slot n).state = .lapsing ∨ (s.slot n).state = .lapsed →
    t.slot n = { s.slot n with
      state := .lapsed, giveOnCompletion := false, answer := none, holdDeadline := none, serviceDeadline := none }
  validGates : ∀ g, (s.gate g).valid = true → t.gate g = { s.gate g with
    allowance := (s.gate g).ceiling, holdQueue := [], takes := 0, gives := 0, holds := 0, expiries := 0, surplus := 0
    references := (t.slots.map (fun e => e.2.claimsOn g)).sum }
  invalidGates : ∀ g, (s.gate g).valid = false → t.gate g = s.gate g
  levels : ∀ l, t.level l = []
  answers : t.answers = []
  tags : ∀ src tag, t.tagged src tag = none
  sources : ∀ i, t.source i = { s.source i with outstanding := 0, admitted := 0, refused := 0 }
  drained : ∀ d, (s.domain d).codeMatches = true → (s.domain d).state = .draining →
    t.domain d = { s.domain d with state := .closed, mode := none, active := 0 }
  domains : ∀ d, (s.domain d).codeMatches = false ∨ (s.domain d).state ≠ .draining →
    t.domain d = { s.domain d with active := 0 }
  pages : t.freePages = 4096 ∧ t.txPages = 0 ∧ t.compPages = 0
  dispatch : t.dispatch = .run
  conditions : ∀ k, t.cond k = { flag := false, masked := (s.cond k).masked, count := 0, detail := none }
  notices : t.notices = []
  runCount : t.runCount = 0
  frame : t = { s with
    slots := t.slots, gates := t.gates, ladder := t.ladder, answers := t.answers, tagIndex := t.tagIndex
    sources := t.sources, domains := t.domains, freePages := t.freePages, txPages := t.txPages
    compPages := t.compPages, dispatch := t.dispatch, conditions := t.conditions, notices := t.notices
    runCount := t.runCount }

/-- The slot moves of an initiator session change, with the port's buffers and credit and what the moves leave in every block: R171 parts 1 to 3 up to the give-backs, with R20, R38 and R116.
The pending NOTICEs and the conditions are kept (R129). -/
structure InitiatorMoved (credit session : Byte) (s t : State) : Prop where
  port : t.initPort = { s.initPort with
    link := .up, session := session, announced := true, rx := [], credit := credit.toNat, creditLimit := credit.toNat
    partnerCredit := 16, tx := [], signals := [.advertise 16 s.ownSession] }
  stored : t.storedSession = s.ownSession
  freed : ∀ n, (s.slot n).state = .held ∨ (s.slot n).state = .laddered ∨ (s.slot n).state = .answering ∨
    ((s.slot n).state = .lapsing ∧ (s.slot n).completionExpected = false) → t.slot n = Slot.reset
  lapsed : ∀ n, (s.slot n).state = .serving ∨ ((s.slot n).state = .lapsing ∧ (s.slot n).completionExpected = true) →
    t.slot n = { s.slot n with state := .lapsed, answer := none, holdDeadline := none, serviceDeadline := none }
  kept : ∀ n, (s.slot n).state = .free ∨ (s.slot n).state = .lapsed → t.slot n = s.slot n
  gates : ∀ g, t.gate g = { s.gate g with
    holdQueue := [], references := (t.slots.map (fun e => e.2.claimsOn g)).sum }
  levels : ∀ l, t.level l = []
  answers : t.answers = []
  tags : ∀ src tag, t.tagged src tag = none
  sources : ∀ i, t.source i = { s.source i with outstanding := 0 }
  domains : ∀ d, t.domain d = { s.domain d with active := 0 }
  pages : t.freePages = 4096 ∧ t.txPages = 0 ∧ t.compPages = 0
  frame : t = { s with
    initPort := t.initPort, storedSession := t.storedSession, slots := t.slots, gates := t.gates, ladder := t.ladder
    answers := t.answers, tagIndex := t.tagIndex, sources := t.sources, domains := t.domains
    freePages := t.freePages, txPages := t.txPages, compPages := t.compPages }

/-- The take gates of the give-backs of an initiator session change, in ascending order of the slots that make them: LADDERED slots and unsent CLEARs (R20). -/
def initiatorGiveBacks (s : State) : List GateNo :=
  (everySlot.filter (fun n => decide ((s.slot n).state = .laddered ∨
    ((s.slot n).state = .answering ∧ (s.slot n).answer = some .clear)))).map (fun n => (s.slot n).takeGate)

/-- The slot moves of a service session change, with the port's buffers and credit (R90, R91 parts 1 to 3). -/
structure ServiceMoved (credit session : Byte) (s t : State) : Prop where
  port : t.svcPort = { s.svcPort with
    link := .up, session := session, announced := true, rx := [], credit := credit.toNat, creditLimit := credit.toNat
    partnerCredit := 16, tx := [], signals := [.advertise 16 s.ownSession] }
  stored : t.storedSession = s.ownSession
  serving : ∀ n, (s.slot n).state = .serving → t.slot n = { s.slot n with
    state := .answering, answer := some (.close .serviceReset), holdDeadline := none, serviceDeadline := none }
  lapsing : ∀ n, (s.slot n).state = .lapsing → t.slot n = { s.slot n with
    completionExpected := false, giveOnCompletion := false }
  lapsed : ∀ n, (s.slot n).state = .lapsed → t.slot n = Slot.reset
  others : ∀ n, (s.slot n).state ≠ .serving → (s.slot n).state ≠ .lapsing → (s.slot n).state ≠ .lapsed →
    t.slot n = s.slot n
  answers : t.answers = s.answers ++ everySlot.filter (fun n => decide ((s.slot n).state = .serving))
  gates : ∀ g, t.gate g = { s.gate g with references := (t.slots.map (fun e => e.2.claimsOn g)).sum }
  domains : ∀ d, t.domain d = { s.domain d with
    active := (s.domain d).active - (everySlot.filter (fun n => (s.slot n).state = .serving ∧ (s.slot n).domain = d)).length }
  frame : t = { s with
    svcPort := t.svcPort, storedSession := t.storedSession, slots := t.slots, gates := t.gates
    answers := t.answers, domains := t.domains, freePages := t.freePages, txPages := t.txPages, compPages := t.compPages }
  pages : t.freePages = s.freePages ∧ t.txPages = s.txPages ∧ t.compPages = s.compPages

/-- The give gates of a service session change, in ascending order of the slots that give (R90, R91 part 4). -/
def serviceGives (s : State) : List GateNo :=
  (everySlot.filter (fun n => decide (((s.slot n).state = .serving ∨ (s.slot n).state = .lapsing ∨
    (s.slot n).state = .lapsed) ∧ (s.slot n).giveOnCompletion = true))).map (fun n => (s.slot n).giveGate)

end Sys2Proof.Machine
end

