-- ==== Sys2Proof/Certificates/Slice0/Obligations.lean ====
section
/-! DEFINITION. The statements for the provers about the AG-1024: what each command does, and the laws that every step keeps. The relations they use stand in Sys2Proof/Safety.lean. -/

open Sys2Proof Sys2Proof.Machine

/-- A step takes the front command with the queue's rest, and idles on an empty queue (the model's own queue: log 2, DESIGN CHOICE). -/
def Obligations.StepTakesFrontCommand : Prop :=
  (∀ (c : Instr) (s : State) (rest : List Instr),
    step { s with pending := c :: rest } = exec c { s with pending := rest }) ∧
  (∀ s : State, step { s with pending := [] } = .next { s with pending := [] })

/-- No command faults or is refused by the model, and none touches the queue of waiting commands.
The queue is the model's own (log 2, DESIGN CHOICE), and so is that a command whose event is not enabled answers a next state (log 1, DESIGN CHOICE). -/
def Obligations.EveryCommandAnswers : Prop :=
  ∀ (c : Instr) (s : State), ∃ t, exec c s = .next t ∧ t.pending = s.pending

/-- The power-on values of R19, R25, R65, R94, R95, R108, R116, R130, R131, R145, R148, R149, R157, R160, R167, R168 (the strap pins read 0: log 4, DESIGN CHOICE; the first power-on: log 5, DESIGN CHOICE; the check code kept as a match: log 7, DESIGN CHOICE). -/
def Obligations.PowerOnValues : Prop :=
  (∀ n : SlotNo, (State.reset.slot n).state = .free) ∧ State.reset.freeCount = 1024 ∧
  (∀ g : GateNo, State.reset.gate g =
    { valid := false, ceiling := 1, allowance := 0, placement := .tail, selector := 0, holdQueue := [], references := 0,
      takes := 0, gives := 0, holds := 0, expiries := 0, surplus := 0 }) ∧
  (∀ i : SourceNo, State.reset.source i =
    { state := if i = 0 then .manager else .disabled, cls := .a, limit := if i = 0 then 64 else 16, outstanding := 0,
      admitted := 0, refused := 0, codeMatches := true }) ∧
  (∀ d : DomainNo, State.reset.domain d =
    { valid := false, state := .closed, base := 0, size := 1, mode := none, active := 0, codeMatches := true }) ∧
  (∀ i : StreamIndex, State.reset.stream i =
    { valid := false, takeGate := 0, giveGate := 0, priority := 0, accessA := .none, accessB := .none, selector := 0,
      seen := false, codeMatches := true }) ∧
  (∀ k : Selector, State.reset.deadline k = 0) ∧ (∀ l : Level, State.reset.level l = []) ∧
  (∀ k : CondKind, State.reset.cond k = { flag := false, masked := false, count := 0, detail := none }) ∧
  State.reset.freePages = 4096 ∧ State.reset.txPages = 0 ∧ State.reset.compPages = 0 ∧ State.reset.reserve = 512 ∧
  State.reset.slotLow = 64 ∧ State.reset.noticeTarget = 0 ∧ State.reset.clearMode = .onAcknowledge ∧
  State.reset.dispatch = .run ∧ State.reset.deviceTime = 0 ∧ State.reset.answers = [] ∧ State.reset.brief = [] ∧
  State.reset.reports = [] ∧ State.reset.notices = [] ∧ State.reset.runCount = 0 ∧ State.reset.batches = [] ∧
  State.reset.engine = .idle ∧ State.reset.ownSession = 1 ∧
  (∀ p : PortId, (State.reset.port p).link = .down ∧ (State.reset.port p).session = 0 ∧
    (State.reset.port p).credit = 0 ∧ (State.reset.port p).creditLimit = 0 ∧ (State.reset.port p).rx = [])

/-- RESET_ASSERT and RESET_RELEASE (R177, R170). The model's choices: the tables while the pin is asserted (log 12, DESIGN CHOICE) and the release of a pin that is not asserted (log 1, DESIGN CHOICE); that no number is stored here: log 6, DEDUCED. -/
def Obligations.ResetPinDropsAndReleases : Prop :=
  (∀ s : State, ∃ t, exec .resetAssert s = .next t ∧ t.resetAsserted = true ∧ t.initPort.link = .down ∧
    t.svcPort.link = .down ∧ t.ownSession = s.ownSession ∧ t.storedSession = s.storedSession ∧
    t = { State.reset with
      resetAsserted := true, straps := s.straps, ownSession := s.ownSession, storedSession := s.storedSession
      sources := [(s.straps.toNat, { SourceEntry.reset with state := .manager, limit := 64 })]
      noticeTarget := s.straps, pending := s.pending }) ∧
  (∀ (s : State) (straps : SourceNo), s.resetAsserted = true → ∃ t, exec (.resetRelease straps) s = .next t ∧
    (∀ i, t.source i = { SourceEntry.reset with
      state := if i = straps then .manager else .disabled, limit := if i = straps then 64 else 16 }) ∧
    t = { State.reset with
      straps := straps, ownSession := s.storedSession + 1, storedSession := s.storedSession, sources := t.sources
      noticeTarget := straps, pending := s.pending }) ∧
  (∀ (s : State) (straps : SourceNo), s.resetAsserted = false → exec (.resetRelease straps) s = .next s)

/-- The link state moves of R167 that need no advertisement (an event in another link state: log 1, DESIGN CHOICE). -/
def Obligations.LinkStatesMove : Prop :=
  ∀ (p : PortId) (s : State),
    ((s.port p).link = .down → s.resetAsserted = false →
      ∃ t, exec (.signallingDetected p) s = .next t ∧ LinkMoved p .training s t) ∧
    ((s.port p).link ≠ .down ∨ s.resetAsserted = true → exec (.signallingDetected p) s = .next s) ∧
    ((s.port p).link = .training → ∃ t, exec (.trainingFailure p) s = .next t ∧ LinkMoved p .down s t) ∧
    ((s.port p).link ≠ .training → exec (.trainingFailure p) s = .next s) ∧
    ((s.port p).link = .up → ∃ t, exec (.linkLoss p) s = .next t ∧ LinkMoved p .down s t) ∧
    ((s.port p).link ≠ .up → exec (.linkLoss p) s = .next s) ∧
    ((s.port p).link = .up → ∃ t, exec (.retrainRequest p) s = .next t ∧ LinkMoved p .training s t) ∧
    ((s.port p).link ≠ .up → exec (.retrainRequest p) s = .next s)

/-- UP of a link for the first time, and at a retrain (R167, R168, R170). The model's own: a port that is not TRAINING (log 1, DESIGN CHOICE), the record of the advertisements and of the partner's credits (log 10, DESIGN CHOICE), the moment at which the own number is stored (log 6, DEDUCED) and the UP with credit 0 (log 22, DEDUCED). -/
def Obligations.UpIsFirstOrRetrain : Prop :=
  ∀ (p : PortId) (credit session : Byte) (s : State),
    ((s.port p).link = .training → credit ≠ 0 → (s.port p).announced = false →
      ∃ t, exec (.up p credit session) s = .next t ∧
        Raised (linkCondition p) ((2 : Byte) ++ session ++ (0 : BitVec 16))
          (({ s with storedSession := s.ownSession } : State).setPort p { s.port p with
            link := .up, session := session, announced := true, credit := credit.toNat, creditLimit := credit.toNat
            partnerCredit := 16, signals := (s.port p).signals ++ [.advertise 16 s.ownSession] }) t) ∧
    ((s.port p).link = .training → credit ≠ 0 → (s.port p).announced = true → session = (s.port p).session →
      ∃ t, exec (.up p credit session) s = .next t ∧
        Raised (linkCondition p) ((2 : Byte) ++ session ++ (0 : BitVec 16))
          (({ s with storedSession := s.ownSession } : State).setPort p { s.port p with
            link := .up, signals := (s.port p).signals ++ [.advertise 16 s.ownSession] }) t) ∧
    ((s.port p).link = .training → credit = 0 → ∃ t, exec (.up p credit session) s = .next t ∧ LinkMoved p .down s t) ∧
    ((s.port p).link ≠ .training → exec (.up p credit session) s = .next s)

/-- An initiator session change (R171, R38, R20, R116, R129, R142, R155): the moves, the give-backs, the emptied queues, the ends of drains, and LINK CHANGE as the last part.
The pending NOTICEs are kept in their order through the moves, and each raising adds its own behind them (R129, R162, R171).
The model's own: the moment at which the own number is stored (log 6, DEDUCED), the transmit path as a list (log 8, DESIGN CHOICE), and the record of the advertisement and of the partner's credits (log 10, DESIGN CHOICE). -/
def Obligations.InitiatorSessionChange : Prop :=
  ∀ (credit session : Byte) (s : State), DeviceLaws s → s.initPort.link = .training → s.initPort.announced = true →
    credit ≠ 0 → session ≠ s.initPort.session →
    ∃ u v d0 d1 d2 d3 t, exec (.up .initiator credit session) s = .next t ∧ InitiatorMoved credit session s u ∧
      GaveEach .deferred (initiatorGiveBacks s) u v ∧
      DrainChecked 0 { v with brief := [], reports := [], batches := [], engine := .idle, runCount := 0 } d0 ∧
      DrainChecked 1 d0 d1 ∧ DrainChecked 2 d1 d2 ∧ DrainChecked 3 d2 d3 ∧
      Raised .initiatorLinkChange ((2 : Byte) ++ session ++ (0 : BitVec 16)) d3 t

/-- A service session change (R90, R91): the moves, the gives, the ends of drains, and LINK CHANGE as the last part.
The model's own: the moment at which the own number is stored (log 6, DEDUCED), the transmit path as a list (log 8, DESIGN CHOICE), and the record of the advertisement and of the partner's credits (log 10, DESIGN CHOICE). -/
def Obligations.ServiceSessionChange : Prop :=
  ∀ (credit session : Byte) (s : State), DeviceLaws s → s.svcPort.link = .training → s.svcPort.announced = true →
    credit ≠ 0 → session ≠ s.svcPort.session →
    ∃ u v d0 d1 d2 d3 t, exec (.up .service credit session) s = .next t ∧ ServiceMoved credit session s u ∧
      GaveEach .deferred (serviceGives s) u v ∧
      DrainChecked 0 v d0 ∧ DrainChecked 1 d0 d1 ∧ DrainChecked 2 d1 d2 ∧ DrainChecked 3 d2 d3 ∧
      Raised .serviceLinkChange ((2 : Byte) ++ session ++ (0 : BitVec 16)) d3 t

/-- PACKET_RECEIVED and the two credit returns (R65, R168, R169). The model's own: frames, acknowledgements and the partner's credits (logs 8, 9 and 10, DESIGN CHOICE) and a credit return at a port that is not UP (log 19, DEDUCED). -/
def Obligations.LinkDeliversPacketsAndCredits : Prop :=
  (∀ (p : PortId) (x : Packet) (s : State),
    ((s.port p).link = .up → (s.port p).rx.length < 16 →
      exec (.packetReceived p x) s = .next (s.setPort p { s.port p with
        rx := (s.port p).rx ++ [x], partnerCredit := (s.port p).partnerCredit - 1
        signals := (s.port p).signals ++ [.acknowledge] })) ∧
    ((s.port p).link ≠ .up ∨ 16 ≤ (s.port p).rx.length → exec (.packetReceived p x) s = .next s)) ∧
  (∀ (p : PortId) (s : State) (c : Instr), c = (match p with
      | .initiator => Instr.transmitCreditReturn
      | .service => Instr.forwardCreditReturn) →
    ((s.port p).link = .up → (s.port p).credit < (s.port p).creditLimit →
      exec c s = .next (s.setPort p { s.port p with credit := (s.port p).credit + 1 })) ∧
    ((s.port p).link ≠ .up ∨ (s.port p).creditLimit ≤ (s.port p).credit → exec c s = .next s))

/-- CHECK_CODE_MISMATCH (R144; the kept check code is a flag: log 7, DESIGN CHOICE; while the reset pin is asserted there is no table to change: log 12, DESIGN CHOICE). -/
def Obligations.CheckCodeMismatchFaultsOneEntry : Prop :=
  (∀ s : State, s.resetAsserted = false →
    (∀ (i : SourceNo) (now : Option SourceContents), exec (.checkCodeMismatch (.source i now)) s = .next (s.setSource i
      { s.source i with toSourceContents := now.getD (s.source i).toSourceContents, codeMatches := false })) ∧
    (∀ (i : DomainNo) (now : Option DomainContents), exec (.checkCodeMismatch (.domain i now)) s = .next (s.setDomain i
      { s.domain i with toDomainContents := now.getD (s.domain i).toDomainContents, codeMatches := false })) ∧
    (∀ (i : StreamIndex) (now : Option StreamContents), exec (.checkCodeMismatch (.stream i now)) s = .next (s.setStream i
      { s.stream i with toStreamContents := now.getD (s.stream i).toStreamContents, codeMatches := false }))) ∧
  (∀ (m : Mismatch) (s : State), s.resetAsserted = true → exec (.checkCodeMismatch m) s = .next s)

/-- DEVICE_TIME_TICK (R94; while the reset pin is asserted device time does not run: log 12, DESIGN CHOICE). -/
def Obligations.DeviceTimeTicks : Prop :=
  (∀ s : State, s.resetAsserted = false → ∃ t, exec .deviceTimeTick s = .next t ∧
    t.deviceTime.toNat = (s.deviceTime.toNat + 1) % 2 ^ 32 ∧ t = { s with deviceTime := t.deviceTime }) ∧
  (∀ s : State, s.resetAsserted = true → exec .deviceTimeTick s = .next s)

/-- The table of R41, field by field. -/
def Obligations.MalformedByKind : Prop :=
  (∀ p : Packet, (p.kindCode = 0 ∨ 6 ≤ p.kindCode.toNat) → malformed p = true) ∧
  (∀ (k : InKind) (p : Packet), p.kindCode = k.code →
    (malformed p = false ↔
      p.b0.extractLsb' 0 2 = 0 ∧ p.b1.extractLsb' 6 2 = 0 ∧ p.b3.extractLsb' 2 6 = 0 ∧
      p.payload.length = p.lengthField ∧
      match k with
      | .transact => p.lengthField ≤ 512 ∧ p.b7 = 0
      | .await => p.lengthField = 0 ∧ p.b7 = 0
      | .post => p.lengthField = 0 ∧ 1 ≤ p.b7.toNat ∧ p.b7.toNat ≤ 16
      | .withdraw => p.lengthField = 0 ∧ p.domain = 0 ∧ p.stream = 0 ∧ p.b2 = 0
      | .manage => 1 ≤ p.lengthField ∧ p.lengthField ≤ 512 ∧ p.domain = 0 ∧ p.stream = 0 ∧ p.b7 = 0))

/-- The order of the fifteen checks and what a refusal does (R40 to R53); which row takes a packet of unknown kind: log 13, DEDUCED. -/
def Obligations.FirstFailedCheckRefuses : Prop :=
  ∀ (k : InKind) (p : Packet) (later : List Packet) (r : Reason) (s : State),
    s.initPort.rx = p :: later → s.brief.length < 32 → (p.kindCode = k.code ∨ ∀ k' : InKind, p.kindCode ≠ k'.code) →
    CheckFails k p s r → (∀ r', (reasonValue r').toNat < (reasonValue r).toNat → ¬ CheckFails k p s r') →
    ∃ u t, exec k.row s = .next t ∧ TookOldest .initiator s u ∧ Refused p r u t

/-- A TRANSACT granted at once (R55, R4). -/
def Obligations.TransactGrantedAtOnce : Prop :=
  ∀ (p : Packet) (n : SlotNo) (s : State), Oldest .transact p s → FlowOpen .transact p s → SlotFree p n s →
    0 < (s.gate (flowEntry s p).takeGate).allowance →
    ∃ t, exec .transact s = .next t ∧ Admitted p n s t ∧
      t.slot n = { admittedSlot .transact p s with state := .laddered } ∧
      (∀ g, t.gate g = (s.gate g).taken (g = (flowEntry s p).takeGate) (g = (flowEntry s p).giveGate)
        (if g = (flowEntry s p).takeGate then (s.gate g).allowance - 1 else (s.gate g).allowance) (s.gate g).holdQueue
        false) ∧
      (∀ l, t.level l = if l = (flowEntry s p).priority then s.level l ++ [n] else s.level l) ∧
      t.answers = s.answers ∧
      (∀ d, t.domain d = { s.domain d with active := (s.domain d).active + (if d = p.domain then 1 else 0) })

/-- An AWAIT granted at once (R56, R4). -/
def Obligations.AwaitGrantedAtOnce : Prop :=
  ∀ (p : Packet) (n : SlotNo) (s : State), Oldest .await p s → FlowOpen .await p s → SlotFree p n s →
    0 < (s.gate (flowEntry s p).takeGate).allowance →
    ∃ t, exec .await s = .next t ∧ Admitted p n s t ∧
      t.slot n = { admittedSlot .await p s with state := .answering, answer := some .clear } ∧
      (∀ g, t.gate g = (s.gate g).taken (g = (flowEntry s p).takeGate) (g = (flowEntry s p).giveGate)
        (if g = (flowEntry s p).takeGate then (s.gate g).allowance - 1 else (s.gate g).allowance) (s.gate g).holdQueue
        false) ∧
      t.ladder = s.ladder ∧ t.answers = s.answers ++ [n] ∧ t.domains = s.domains

/-- A take that is held (R3, R5, R55, R56, R98, R99). -/
def Obligations.TakeWithoutUnitIsHeld : Prop :=
  ∀ (k : SlotKind) (p : Packet) (n : SlotNo) (s : State), Oldest k.inKind p s → FlowOpen k.inKind p s → SlotFree p n s →
    (s.gate (flowEntry s p).takeGate).allowance = 0 →
    ∃ t ahead behind, exec k.inKind.row s = .next t ∧ Admitted p n s t ∧
      (s.gate (flowEntry s p).takeGate).holdQueue = ahead ++ behind ∧
      (n ∉ ahead ++ behind →
        (∀ m ∈ ahead, (s.slot m).priority.toNat ≤ (flowEntry s p).priority.toNat) ∧
        (∀ m ∈ behind.head?, (flowEntry s p).priority.toNat < (s.slot m).priority.toNat) ∧
        (QueuesOrdered s → ∀ m ∈ behind, (flowEntry s p).priority.toNat < (s.slot m).priority.toNat)) ∧
      t.slot n = { admittedSlot k p s with
        state := .held
        holdDeadline :=
          if (s.gate (flowEntry s p).takeGate).selector = 0 ∨
            s.deadline (s.gate (flowEntry s p).takeGate).selector = 0 then none
          else some { start := s.deviceTime, units := s.deadline (s.gate (flowEntry s p).takeGate).selector } } ∧
      (∀ g, t.gate g = (s.gate g).taken (g = (flowEntry s p).takeGate) (g = (flowEntry s p).giveGate) (s.gate g).allowance
        (if g = (flowEntry s p).takeGate then ahead ++ n :: behind else (s.gate g).holdQueue)
        (g = (flowEntry s p).takeGate)) ∧
      t.ladder = s.ladder ∧ t.answers = s.answers ∧
      (∀ d, t.domain d = { s.domain d with active := (s.domain d).active + (if d = p.domain then 1 else 0) })

/-- POST (R57, R17, R8). That a give which ends another domain's drain raises DRAIN COMPLETE at the fall itself, before the next give: log 18, DEDUCED. -/
def Obligations.PostGivesUnits : Prop :=
  ∀ (p : Packet) (s : State), Oldest .post p s → FlowOpen .post p s →
    ∃ u v t, exec .post s = .next t ∧ TookOldest .initiator s u ∧
      GaveTimes (flowEntry s p).giveGate p.b7.toNat u v ∧
      (∀ surplus, surplus = p.b7.toNat - ((s.gate (flowEntry s p).giveGate).holdQueue.length +
          ((s.gate (flowEntry s p).giveGate).ceiling - (s.gate (flowEntry s p).giveGate).allowance)) →
        t.brief = s.brief ++ [{
          source := p.source, tag := p.b2, domain := p.domain, stream := p.stream
          body := .ack (p.b7.toNat - surplus) surplus }]) ∧
      (∀ i, t.source i = { v.source i with admitted := (v.source i).admitted + (if i = p.source then 1 else 0) }) ∧
      (∀ i, t.stream i = { v.stream i with seen := (v.stream i).seen || decide (i = flowIndex s p) }) ∧
      t = { v with sources := t.sources, streams := t.streams, brief := t.brief }

/-- WITHDRAW of a HELD or LADDERED slot (R58, R69, R103, R104). That DRAIN COMPLETE is raised at the fall itself, before the give-back of a LADDERED slot: log 18, DEDUCED. -/
def Obligations.WithdrawClosesWaitingSlot : Prop :=
  ∀ (p : Packet) (n : SlotNo) (s : State), Oldest .withdraw p s → (s.source p.source).codeMatches = true →
    (s.source p.source).state ≠ .disabled → s.tagged p.source p.b7 = some n →
    ((s.slot n).state = .held →
      ∃ u a b c e t, exec .withdraw s = .next t ∧ TookOldest .initiator s u ∧ LeftQueue n u a ∧
        Owes .answering (.close .withdrawn) n a b ∧ PagesFreed n b c ∧ ActiveFell (s.slot n).domain c e ∧
        CountsAdmitted p.source e t) ∧
    ((s.slot n).state = .laddered →
      ∃ u a b c e v t, exec .withdraw s = .next t ∧ TookOldest .initiator s u ∧ LeftLevel n u a ∧
        Owes .answering (.close .withdrawn) n a b ∧ PagesFreed n b c ∧ ActiveFell (s.slot n).domain c e ∧
        Gave .atOnce false (s.slot n).takeGate e v ∧ CountsAdmitted p.source v t)

/-- The three withdrawal failures (R105, R58, R102). -/
def Obligations.WithdrawRefusedElsewhere : Prop :=
  ∀ (p : Packet) (s : State), Oldest .withdraw p s → (s.source p.source).codeMatches = true →
    (s.source p.source).state ≠ .disabled →
    (s.tagged p.source p.b7 = none →
      ∃ u t, exec .withdraw s = .next t ∧ TookOldest .initiator s u ∧ Refused p .notFound u t) ∧
    (∀ n, s.tagged p.source p.b7 = some n → (s.slot n).state = .serving →
      ∃ u t, exec .withdraw s = .next t ∧ TookOldest .initiator s u ∧ Refused p .inService u t) ∧
    (∀ n, s.tagged p.source p.b7 = some n → (s.slot n).state = .answering ∨ (s.slot n).state = .lapsing →
      ∃ u t, exec .withdraw s = .next t ∧ TookOldest .initiator s u ∧ Refused p .answered u t)

/-- MANAGE accepted (R59, R44, R131). -/
def Obligations.ManageJoinsBatchQueue : Prop :=
  ∀ (p : Packet) (s : State), Oldest .manage p s → (s.source p.source).codeMatches = true →
    (s.source p.source).state = .manager → s.batches.length < 4 →
    ∃ u t, exec .manage s = .next t ∧ TookOldest .initiator s u ∧
      CountsAdmitted p.source { u with batches := u.batches ++ [{
        source := p.source, tag := p.b2, bytes := p.payload, position := 1, offset := 0, lastKey := none
        stopped := false, entries := [], applied := 0 }] } t

/-- The waits of R39, R66, R77, R122, R125, R128 (a command whose event is not enabled leaves the state: log 1, DESIGN CHOICE). -/
def Obligations.BlockedUnitsWait : Prop :=
  (∀ (k : InKind) (s : State), 32 ≤ s.brief.length ∨ s.initPort.rx = [] → exec k.row s = .next s) ∧
  (∀ s : State, s.dispatch = .paused ∨ s.svcPort.link ≠ .up ∨ s.svcPort.credit = 0 ∨ (∀ l, s.level l = []) →
    exec .forward s = .next s) ∧
  (∀ (p : Packet) (later : List Packet) (s : State), s.svcPort.rx = p :: later → IsComplete p →
    (s.slot p.trackingTag).state = .serving → s.freePages < (p.payload.length + 63) / 64 →
    exec .complete s = .next s) ∧
  (∀ s : State, s.initPort.link ≠ .up ∨ s.initPort.credit = 0 ∨
    (s.notices = [] ∧ s.reports = [] ∧ s.brief = [] ∧ s.answers = []) → exec .outboundSending s = .next s)

/-- FORWARD (R63, R66, R67, R68, R113). -/
def Obligations.ForwardTakesHighestHead : Prop :=
  (∀ (l : Level) (n : SlotNo) (q : List SlotNo) (s : State), s.dispatch = .run → s.svcPort.link = .up →
    1 ≤ s.svcPort.credit → s.level l = n :: q → (∀ m : Level, m.toNat < l.toNat → s.level m = []) →
    (s.slot n).priority = l →
    ∃ t, exec .forward s = .next t ∧
      t.level l = q ∧ (∀ m, m ≠ l → t.level m = s.level m) ∧
      t.svcPort = { s.svcPort with
        credit := s.svcPort.credit - 1
        tx := s.svcPort.tx ++ [Packet.build 1 (s.slot n).domain (s.slot n).source (n.extractLsb' 0 8) (n.extractLsb' 8 2)
          (s.slot n).stream 0 (s.slot n).payload] } ∧
      t.slot n = { s.slot n with
        state := .serving, pages := 0, payload := [], completionExpected := true
        serviceDeadline :=
          if (s.slot n).selector = 0 ∨ s.deadline (s.slot n).selector = 0 then none
          else some { start := s.deviceTime, units := s.deadline (s.slot n).selector } } ∧
      (∀ m, m ≠ n → t.slot m = s.slot m) ∧
      t.freePages = s.freePages + (s.slot n).pages ∧ t.txPages = s.txPages - (s.slot n).pages ∧
      t = { s with
        ladder := t.ladder, svcPort := t.svcPort, slots := t.slots, freePages := t.freePages, txPages := t.txPages }) ∧
  (∀ s : State, s.dispatch ≠ .run ∨ s.svcPort.link ≠ .up ∨ s.svcPort.credit = 0 ∨ (∀ l, s.level l = []) →
    exec .forward s = .next s)

/-- COMPLETE for a SERVING slot (R76, R77, R78). -/
def Obligations.CompleteEndsService : Prop :=
  ∀ (p : Packet) (later : List Packet) (s : State), s.svcPort.rx = p :: later → IsComplete p →
    (s.slot p.trackingTag).state = .serving → (p.payload.length + 63) / 64 ≤ s.freePages →
    ∃ u w x t, exec .complete s = .next t ∧ TookOldest .service s u ∧
      Owes .answering (.result p.b7 p.payload ((p.payload.length + 63) / 64)) p.trackingTag
        { u with
          freePages := u.freePages - (p.payload.length + 63) / 64
          compPages := u.compPages + (p.payload.length + 63) / 64 } w ∧
      ActiveFell (s.slot p.trackingTag).domain w x ∧
      GaveIf (s.slot p.trackingTag).giveOnCompletion (s.slot p.trackingTag).giveGate x t

/-- Late, stray and malformed packets of the service link (R76, R84 to R87). -/
def Obligations.LateAndStrayCompletes : Prop :=
  ∀ (p : Packet) (later : List Packet) (s : State), s.svcPort.rx = p :: later →
    (IsComplete p → (s.slot p.trackingTag).state = .lapsed →
      ∃ u v w t, exec .complete s = .next t ∧ TookOldest .service s u ∧ Freed p.trackingTag u v ∧
        GaveIf (s.slot p.trackingTag).giveOnCompletion (s.slot p.trackingTag).giveGate v w ∧
        Raised .lateCompletion (BitVec.ofNat 32 p.trackingTag.toNat) w t) ∧
    (¬ IsComplete p ∨ ((s.slot p.trackingTag).state ≠ .serving ∧ (s.slot p.trackingTag).state ≠ .lapsed) →
      ∃ u t, exec .complete s = .next t ∧ TookOldest .service s u ∧
        Raised .strayCompletion (BitVec.ofNat 32 p.trackingTag.toNat) u t)

/-- SERVICE_LAPSE (R81, R98; at a slot where no expiry is due the state is left: log 1, DESIGN CHOICE; no upper bound on the delay: log 11, DESIGN CHOICE). -/
def Obligations.ServiceDeadlineLapses : Prop :=
  ∀ (n : SlotNo) (s : State),
    (∀ d, (s.slot n).state = .serving → (s.slot n).serviceDeadline = some d →
      d.units.toNat * 16 ≤ (s.deviceTime - d.start).toNat →
      ∃ u v t, exec (.serviceLapse n) s = .next t ∧ Owes .lapsing (.close .lapsed) n s u ∧
        ActiveFell (s.slot n).domain u v ∧ Raised .serviceLapse (BitVec.ofNat 32 n.toNat) v t) ∧
    ((s.slot n).state ≠ .serving ∨ (s.slot n).serviceDeadline = none ∨
      (∃ d, (s.slot n).serviceDeadline = some d ∧ (s.deviceTime - d.start).toNat < d.units.toNat * 16) →
      exec (.serviceLapse n) s = .next s)

/-- HOLD_EXPIRY (R10, R98, R100; at a slot where no expiry is due the state is left: log 1, DESIGN CHOICE; no upper bound on the delay: log 11, DESIGN CHOICE). -/
def Obligations.HoldDeadlineExpires : Prop :=
  ∀ (n : SlotNo) (s : State),
    (∀ d, (s.slot n).state = .held → (s.slot n).holdDeadline = some d →
      d.units.toNat * 16 ≤ (s.deviceTime - d.start).toNat →
      ∃ a b c t, exec (.holdExpiry n) s = .next t ∧
        LeftQueue n (s.setGate (s.slot n).takeGate { s.gate (s.slot n).takeGate with
          expiries := (s.gate (s.slot n).takeGate).expiries + 1 }) a ∧
        Owes .answering (.close .expired) n a b ∧ PagesFreed n b c ∧ ActiveFell (s.slot n).domain c t) ∧
    ((s.slot n).state ≠ .held ∨ (s.slot n).holdDeadline = none ∨
      (∃ d, (s.slot n).holdDeadline = some d ∧ (s.deviceTime - d.start).toNat < d.units.toNat * 16) →
      exec (.holdExpiry n) s = .next s)

/-- Sending a NOTICE, a REPORT or a brief answer (R118, R124, R125, R126, R173, R176). -/
def Obligations.OutboundSendsByPreference : Prop :=
  ∀ s : State, s.initPort.link = .up → 1 ≤ s.initPort.credit → ¬ (s.runCount = 8 ∧ s.answers ≠ []) →
    (∀ k ks, s.notices = k :: ks → ∃ u, Transmitted .initiator
        (Packet.build 14 0 s.noticeTarget 0 0 0 0
          ([byteOf k.number] ++ twoBytes (s.cond k).count ++ fourBytes ((s.cond k).detail.getD 0))) s u ∧
      exec .outboundSending s = .next { u with
        notices := ks, runCount := if s.answers = [] then 0 else min (s.runCount + 1) 8 }) ∧
    (∀ r rs, s.notices = [] → s.reports = r :: rs → ∃ u, Transmitted .initiator
        (Packet.build 13 0 r.source r.tag 0 0 0 ([byteOf r.applied, byteOf r.entries.length] ++
          r.entries.flatMap (fun e => statusCode e.status :: e.data))) s u ∧
      exec .outboundSending s = .next { u with
        reports := rs, runCount := if s.answers = [] then 0 else min (s.runCount + 1) 8 }) ∧
    (∀ b bs, s.notices = [] → s.reports = [] → s.brief = b :: bs → ∃ u, Transmitted .initiator
        (match b.body with
          | .ack applied surplus =>
            Packet.build 11 b.domain b.source b.tag 0 b.stream 0 [byteOf applied, byteOf surplus]
          | .refuse r => Packet.build 12 b.domain b.source b.tag 0 b.stream (reasonValue r) []) s u ∧
      exec .outboundSending s = .next { u with
        brief := bs, runCount := if s.answers = [] then 0 else min (s.runCount + 1) 8 })

/-- Sending a slot answer (R118, R121, R125, R126, R82). -/
def Obligations.SlotAnswerFinishesSlot : Prop :=
  ∀ (n : SlotNo) (rest : List SlotNo) (a : Answer) (s : State), s.initPort.link = .up → 1 ≤ s.initPort.credit →
    s.answers = n :: rest → (s.slot n).answer = some a →
    (s.runCount = 8 ∨ (s.notices = [] ∧ s.reports = [] ∧ s.brief = [])) →
    ∃ u v, exec .outboundSending s = .next { v with runCount := 0 } ∧
      Transmitted .initiator (match a with
        | .result status payload _ =>
          Packet.build 8 (s.slot n).domain (s.slot n).source (s.slot n).tag 0 (s.slot n).stream status payload
        | .clear => Packet.build 9 (s.slot n).domain (s.slot n).source (s.slot n).tag 0 (s.slot n).stream 0 []
        | .close code => Packet.build 10 (s.slot n).domain (s.slot n).source (s.slot n).tag 0 (s.slot n).stream
            (closeCodeValue code) []) s u ∧
      ((s.slot n).state = .lapsing → (s.slot n).completionExpected = true → Lapsed n u v) ∧
      ((s.slot n).state ≠ .lapsing ∨ (s.slot n).completionExpected = false → Freed n u v)

/-- BATCH_BEGIN (R132, R123; not enabled: log 1, DESIGN CHOICE). -/
def Obligations.BatchBegins : Prop :=
  (∀ (b : Batch) (waiting : List Batch) (s : State), s.engine = .idle → s.batches = b :: waiting → s.reports.length < 4 →
    exec .batchBegin s = .next { s with
      engine := .applying, batches := { b with position := 1, offset := 0, lastKey := none } :: waiting }) ∧
  (∀ s : State, s.engine = .applying ∨ s.batches = [] ∨ 4 ≤ s.reports.length → exec .batchBegin s = .next s)

/-- The layout of records and the codes of the record kinds (R174), with what R134 finds at a position. -/
def Obligations.RecordBytesParse : Prop :=
  (∀ (table index position : Nat) (code : Byte) (value later : List Byte), table < 255 → index < 65536 → position < 32 →
    value.length ≤ 16 →
    (∀ kind : RecordKind, code = (match kind with
        | .read => 1 | .write => 2 | .setAllowance => 3 | .drain => 4 | .reopen => 5 | .reclaim => 6 | .acknowledge => 7
        | .dispatch => 8 | .restart => 9) →
      findRecord position (recordBytes table index code value ++ later) =
        .keyed { table := table, index := index, kind := kind, value := value }) ∧
    (code = 0 ∨ 10 ≤ code.toNat → findRecord position (recordBytes table index code value ++ later) = .malformed)) ∧
  (∀ (position : Nat) (later : List Byte), findRecord position (0xFF :: later) = .endMarker) ∧
  (∀ position : Nat, findRecord position [] = .missingEnd) ∧
  (∀ (first : Byte) (later : List Byte), first ≠ 0xFF → findRecord 32 (first :: later) = .missingEnd) ∧
  (∀ (position : Nat) (first : Byte) (later : List Byte), position < 32 → first ≠ 0xFF → later.length < 4 →
    findRecord position (first :: later) = .malformed) ∧
  (∀ (position : Nat) (first i1 i0 code len : Byte) (later : List Byte), position < 32 → first ≠ 0xFF →
    16 < len.toNat ∨ later.length < len.toNat →
    findRecord position (first :: i1 :: i0 :: code :: len :: later) = .malformed)

/-- END, MISSING END and MALFORMED (R134, R138, R139); the two rows that take an unparsable position: log 14, DEDUCED. -/
def Obligations.EndAndUnparsablePositions : Prop :=
  ∀ (b : Batch) (waiting : List Batch) (s : State), s.engine = .applying → s.batches = b :: waiting →
    (findRecord b.position (b.bytes.drop b.offset) = .endMarker →
      exec .endMarker s = .next (s.finished b b.applied .done 0)) ∧
    (findRecord b.position (b.bytes.drop b.offset) = .missingEnd →
      exec .endMarker s = .next (s.finished b b.applied .missingEnd 0) ∧
      exec .badKey s = .next (s.finished b b.applied .missingEnd 0)) ∧
    (findRecord b.position (b.bytes.drop b.offset) = .malformed →
      exec .endMarker s = .next (s.finished b b.applied .malformed 0) ∧
      exec .badKey s = .next (s.finished b b.applied .malformed 0))

/-- BAD KEY (R136) and OUT OF ORDER (R135, R138). -/
def Obligations.BadKeyAndOutOfOrder : Prop :=
  (∀ (b : Batch) (table index : Nat) (code : Byte) (value : List Byte) (s : State), AtRecord s b table index code value →
    1 ≤ code.toNat → code.toNat ≤ 9 → keyTakes table index code = false →
    exec .badKey s = .next (s.withHead (b.afterRecord table index value .badKey []))) ∧
  (∀ (b : Batch) (table index : Nat) (code : Byte) (value later : List Byte) (waiting : List Batch) (k : Nat × Nat) (s : State),
    s.engine = .applying → s.batches = b :: waiting → b.position < 32 → table < 255 → index < 65536 →
    value.length ≤ 16 → 1 ≤ code.toNat → code.toNat ≤ 9 →
    b.bytes.drop b.offset = recordBytes table index code value ++ later → b.lastKey = some k →
    table < k.1 ∨ (table = k.1 ∧ index < k.2) →
    ∃ more, Walks (b.position + 1) later more ∧
      exec .badKey s = .next (s.finished b b.applied .outOfOrder more))

/-- SOURCE_WRITE (R146). -/
def Obligations.SourceWriteChecksAndStores : Prop :=
  ∀ (b : Batch) (i : SourceNo) (value : List Byte) (s : State), AtRecord s b 1 i.toNat 2 value →
    (∀ c : SourceContents, c.limit ≤ 1024 → value = sourceValue c →
      ((s.source i).state ≠ .manager ∨ c.state = .manager ∨
        ∃ j, j ≠ i ∧ (s.source j).codeMatches = true ∧ (s.source j).state = .manager) →
      (c.state = .manager ∨ i ≠ s.noticeTarget) →
      ∃ u, exec .sourceWrite s = .next (u.withHead (b.afterRecord 1 i.toNat value .done [])) ∧
        Raised .privilegeChange (BitVec.ofNat 32 i.toNat)
          (s.setSource i { s.source i with toSourceContents := c, codeMatches := true }) u) ∧
    (∀ c : SourceContents, c.limit ≤ 1024 → value = sourceValue c → (s.source i).state = .manager → c.state ≠ .manager →
      (∀ j, j ≠ i → (s.source j).codeMatches = false ∨ (s.source j).state ≠ .manager) →
      exec .sourceWrite s = .next (s.withHead (b.afterRecord 1 i.toNat value .lastManager []))) ∧
    (∀ c : SourceContents, c.limit ≤ 1024 → value = sourceValue c → c.state ≠ .manager → i = s.noticeTarget →
      ((s.source i).state ≠ .manager ∨ ∃ j, j ≠ i ∧ (s.source j).codeMatches = true ∧ (s.source j).state = .manager) →
      exec .sourceWrite s = .next (s.withHead (b.afterRecord 1 i.toNat value .isTarget []))) ∧
    ((∀ c : SourceContents, c.limit ≤ 1024 → value ≠ sourceValue c) →
      exec .sourceWrite s = .next (s.withHead (b.afterRecord 1 i.toNat value .badValue [])))

/-- SOURCE_READ (R147, R175). -/
def Obligations.SourceReadReturnsViews : Prop :=
  ∀ (b : Batch) (i : SourceNo) (value : List Byte) (s : State), AtRecord s b 1 i.toNat 1 value →
    ((value = [] ∨ value = [0]) → (s.source i).codeMatches = true →
      exec .sourceRead s = .next (s.withHead (b.afterRecord 1 i.toNat value .done
        ([sourceStateCode (s.source i).state, classCode (s.source i).cls] ++ twoBytes (s.source i).limit ++
          twoBytes (s.source i).outstanding)))) ∧
    (value = [1] → (s.source i).codeMatches = true →
      exec .sourceRead s = .next (s.withHead (b.afterRecord 1 i.toNat value .done
        (fourBytes (s.source i).admitted ++ fourBytes (s.source i).refused)))) ∧
    ((value = [] ∨ value = [0] ∨ value = [1]) → (s.source i).codeMatches = false →
      exec .sourceRead s = .next (s.withHead (b.afterRecord 1 i.toNat value .faulted []))) ∧
    (value ≠ [] → value ≠ [0] → value ≠ [1] →
      exec .sourceRead s = .next (s.withHead (b.afterRecord 1 i.toNat value .badValue [])))

/-- DOMAIN_WRITE (R151). -/
def Obligations.DomainWriteChecksAndStores : Prop :=
  ∀ (b : Batch) (d : DomainNo) (value : List Byte) (s : State), AtRecord s b 2 d.toNat 2 value →
    (∀ (valid : Bool) (base size : Nat), base ≤ 2047 → 1 ≤ size → size ≤ 1024 → value = domainValue valid base size →
      (((s.domain d).codeMatches = true ∧ (s.domain d).state ≠ .closed) ∨
        ((s.domain d).codeMatches = false ∧ 0 < (s.domain d).active) →
        exec .domainWrite s = .next (s.withHead (b.afterRecord 2 d.toNat value .wrongState []))) ∧
      (((s.domain d).codeMatches = true ∧ (s.domain d).state = .closed) ∨
        ((s.domain d).codeMatches = false ∧ (s.domain d).active = 0) →
        (valid = true ∧ (2048 < base + size ∨ ∃ e, e ≠ d ∧ (s.domain e).valid = true ∧
          ∃ i, base ≤ i ∧ i < base + size ∧ (s.domain e).base ≤ i ∧ i < (s.domain e).base + (s.domain e).size) →
          exec .domainWrite s = .next (s.withHead (b.afterRecord 2 d.toNat value .overlap []))) ∧
        (valid = false ∨ (base + size ≤ 2048 ∧ ∀ e, e ≠ d → (s.domain e).valid = true →
          ¬ ∃ i, base ≤ i ∧ i < base + size ∧ (s.domain e).base ≤ i ∧ i < (s.domain e).base + (s.domain e).size) →
          exec .domainWrite s = .next (State.withHead (s.setDomain d { s.domain d with
            valid := valid, base := base, size := size, state := .closed, mode := none, codeMatches := true })
            (b.afterRecord 2 d.toNat value .done []))))) ∧
    ((∀ (valid : Bool) (base size : Nat), base ≤ 2047 → 1 ≤ size → size ≤ 1024 → value ≠ domainValue valid base size) →
      exec .domainWrite s = .next (s.withHead (b.afterRecord 2 d.toNat value .badValue [])))

/-- DOMAIN_READ (R150, R175) and REOPEN (R156). -/
def Obligations.DomainReadAndReopen : Prop :=
  (∀ (b : Batch) (d : DomainNo) (value : List Byte) (s : State), AtRecord s b 2 d.toNat 1 value →
    (value = [] → (s.domain d).codeMatches = true →
      exec .domainRead s = .next (s.withHead (b.afterRecord 2 d.toNat value .done
        ([domainStateCode (s.domain d).state, yesNo (s.domain d).valid] ++ twoBytes (s.domain d).base ++
          twoBytes (s.domain d).size ++ twoBytes (s.domain d).active ++ [drainModeCode (s.domain d).mode])))) ∧
    (value = [] → (s.domain d).codeMatches = false →
      exec .domainRead s = .next (s.withHead (b.afterRecord 2 d.toNat value .faulted []))) ∧
    (value ≠ [] → exec .domainRead s = .next (s.withHead (b.afterRecord 2 d.toNat value .badValue [])))) ∧
  (∀ (b : Batch) (d : DomainNo) (value : List Byte) (s : State), AtRecord s b 2 d.toNat 5 value →
    (value = [] → (s.domain d).valid = true → (s.domain d).codeMatches = true → (s.domain d).state = .closed →
      exec .reopen s = .next (State.withHead (s.setDomain d { s.domain d with state := .opened, codeMatches := true })
        (b.afterRecord 2 d.toNat value .done []))) ∧
    (value = [] → (s.domain d).valid = false ∨ (s.domain d).codeMatches = false ∨ (s.domain d).state ≠ .closed →
      exec .reopen s = .next (s.withHead (b.afterRecord 2 d.toNat value .wrongState []))) ∧
    (value ≠ [] → exec .reopen s = .next (s.withHead (b.afterRecord 2 d.toNat value .badValue []))))

/-- DRAIN in WAIT and in FLUSH mode (R152, R153, R155, R70, R17). That a give-back of the flush which ends another domain's drain raises DRAIN COMPLETE at the fall itself: log 18, DEDUCED. -/
def Obligations.DrainWaitsOrFlushes : Prop :=
  ∀ (b : Batch) (d : DomainNo) (value : List Byte) (s : State), AtRecord s b 2 d.toNat 4 value →
    ((s.domain d).valid = true → (s.domain d).codeMatches = true → (s.domain d).state = .opened →
      (value = [1] → ∃ t, exec .drain s = .next (t.withHead (b.afterRecord 2 d.toNat value .done [])) ∧
        DrainChecked d (s.setDomain d { s.domain d with state := .draining, mode := some .wait, codeMatches := true }) t) ∧
      (value = [2] → ∃ u v w t, exec .drain s = .next (t.withHead (b.afterRecord 2 d.toNat value .done [])) ∧
        FlushedHeld d
          ((((List.range 256).map (BitVec.ofNat 8)).flatMap (fun g => (s.gate g).holdQueue)).filter
            (fun n => (s.slot n).domain = d))
          (s.setDomain d { s.domain d with state := .draining, mode := some .flush, codeMatches := true }) u ∧
        FlushedLaddered d
          ((([0, 1, 2, 3, 4, 5, 6, 7] : List Level).flatMap s.level).filter (fun n => (s.slot n).domain = d)) u v ∧
        GaveEach .atOnce
          (((([0, 1, 2, 3, 4, 5, 6, 7] : List Level).flatMap s.level).filter (fun n => (s.slot n).domain = d)).map
            (fun n => (s.slot n).takeGate)) v w ∧
        DrainChecked d w t)) ∧
    ((value = [1] ∨ value = [2]) →
      (s.domain d).valid = false ∨ (s.domain d).codeMatches = false ∨ (s.domain d).state ≠ .opened →
      exec .drain s = .next (s.withHead (b.afterRecord 2 d.toNat value .wrongState []))) ∧
    (value ≠ [1] → value ≠ [2] → exec .drain s = .next (s.withHead (b.afterRecord 2 d.toNat value .badValue [])))

/-- STREAM_WRITE and STREAM_READ (R148, R175). -/
def Obligations.StreamWriteAndRead : Prop :=
  (∀ (b : Batch) (i : StreamIndex) (value : List Byte) (s : State), AtRecord s b 3 i.toNat 2 value →
    (∀ c : StreamContents, value = streamValue c →
      exec .streamWrite s = .next (State.withHead (s.setStream i { toStreamContents := c, seen := false, codeMatches := true })
        (b.afterRecord 3 i.toNat value .done []))) ∧
    ((∀ c : StreamContents, value ≠ streamValue c) →
      exec .streamWrite s = .next (s.withHead (b.afterRecord 3 i.toNat value .badValue [])))) ∧
  (∀ (b : Batch) (i : StreamIndex) (value : List Byte) (s : State), AtRecord s b 3 i.toNat 1 value →
    (value = [] → (s.stream i).codeMatches = true →
      exec .streamRead s = .next (s.withHead (b.afterRecord 3 i.toNat value .done
        (streamValue (s.stream i).toStreamContents ++ [yesNo (s.stream i).seen])))) ∧
    (value = [] → (s.stream i).codeMatches = false →
      exec .streamRead s = .next (s.withHead (b.afterRecord 3 i.toNat value .faulted []))) ∧
    (value ≠ [] → exec .streamRead s = .next (s.withHead (b.afterRecord 3 i.toNat value .badValue []))))

/-- GATE_WRITE (R13). -/
def Obligations.GateWriteSetsAllowance : Prop :=
  ∀ (b : Batch) (g : GateNo) (value : List Byte) (s : State), AtRecord s b 4 g.toNat 2 value →
    (∀ (valid : Bool) (ceiling : Nat) (placement : Placement) (sel : Selector), 1 ≤ ceiling → ceiling ≤ 4095 →
      value = gateValue valid ceiling placement sel →
      ((s.gate g).valid = true → valid = false → 0 < (s.gate g).references →
        exec .gateWrite s = .next (s.withHead (b.afterRecord 4 g.toNat value .wrongState []))) ∧
      ((s.gate g).valid = false ∨ valid = true ∨ (s.gate g).references = 0 →
        exec .gateWrite s = .next (State.withHead (s.setGate g { s.gate g with
          valid := valid, ceiling := ceiling, placement := placement, selector := sel
          allowance :=
            if valid = false then 0
            else if (s.gate g).valid = false then ceiling
            else min (s.gate g).allowance ceiling })
          (b.afterRecord 4 g.toNat value .done [])))) ∧
    ((∀ (valid : Bool) (ceiling : Nat) (placement : Placement) (sel : Selector), 1 ≤ ceiling → ceiling ≤ 4095 →
      value ≠ gateValue valid ceiling placement sel) →
      exec .gateWrite s = .next (s.withHead (b.afterRecord 4 g.toNat value .badValue [])))

/-- GATE_READ (R16, R175). -/
def Obligations.GateReadReturnsViews : Prop :=
  ∀ (b : Batch) (g : GateNo) (value : List Byte) (s : State), AtRecord s b 4 g.toNat 1 value →
    ((value = [] ∨ value = [0]) →
      exec .gateRead s = .next (s.withHead (b.afterRecord 4 g.toNat value .done
        ([yesNo (s.gate g).valid] ++ twoBytes (s.gate g).ceiling ++ twoBytes (s.gate g).allowance ++
          [placementCode (s.gate g).placement, byteOf (s.gate g).selector.toNat] ++
          twoBytes (s.gate g).holdQueue.length ++ twoBytes (s.gate g).references)))) ∧
    (value = [1] →
      exec .gateRead s = .next (s.withHead (b.afterRecord 4 g.toNat value .done
        (fourBytes (s.gate g).takes ++ fourBytes (s.gate g).gives ++ fourBytes (s.gate g).holds ++
          fourBytes (s.gate g).expiries)))) ∧
    (value = [2] → (s.gate g).holdQueue = [] →
      exec .gateRead s = .next (s.withHead (b.afterRecord 4 g.toNat value .done
        (fourBytes (s.gate g).surplus ++ [0, 0, 0, 0])))) ∧
    (∀ n q, value = [2] → (s.gate g).holdQueue = n :: q →
      exec .gateRead s = .next (s.withHead (b.afterRecord 4 g.toNat value .done
        (fourBytes (s.gate g).surplus ++ [1] ++ twoBytes n.toNat ++ [byteOf (s.slot n).priority.toNat])))) ∧
    (value ≠ [] → value ≠ [0] → value ≠ [1] → value ≠ [2] →
      exec .gateRead s = .next (s.withHead (b.afterRecord 4 g.toNat value .badValue [])))

/-- SET_ALLOWANCE (R12, R7). That a release which ends a drain raises DRAIN COMPLETE at the fall itself, before the next release: log 18, DEDUCED. -/
def Obligations.SetAllowanceReleasesFirst : Prop :=
  ∀ (b : Batch) (g : GateNo) (value : List Byte) (s : State), AtRecord s b 4 g.toNat 3 value →
    (∀ v : Nat, v < 65536 → value = twoBytes v →
      ((s.gate g).ceiling < v → exec .setAllowance s = .next (s.withHead (b.afterRecord 4 g.toNat value .badValue []))) ∧
      (v ≤ (s.gate g).ceiling → (s.gate g).valid = false →
        exec .setAllowance s = .next (s.withHead (b.afterRecord 4 g.toNat value .wrongState []))) ∧
      (v ≤ (s.gate g).ceiling → (s.gate g).valid = true →
        ∃ u, ReleasedTimes g (min v (s.gate g).holdQueue.length) s u ∧
          exec .setAllowance s = .next (State.withHead (u.setGate g { u.gate g with
            allowance := v - min v (s.gate g).holdQueue.length }) (b.afterRecord 4 g.toNat value .done [])))) ∧
    (value.length ≠ 2 → exec .setAllowance s = .next (s.withHead (b.afterRecord 4 g.toNat value .badValue [])))

/-- DEADLINE_WRITE (R96) and DEADLINE_READ (R97). -/
def Obligations.DeadlineRecords : Prop :=
  (∀ (b : Batch) (k : Selector) (value : List Byte) (s : State), AtRecord s b 5 k.toNat 2 value →
    (∀ d : BitVec 16, value = twoBytes d.toNat →
      (k ≠ 0 → exec .deadlineWrite s = .next (State.withHead (s.setDeadline k d) (b.afterRecord 5 k.toNat value .done []))) ∧
      (k = 0 → exec .deadlineWrite s = .next (s.withHead (b.afterRecord 5 k.toNat value .wrongState [])))) ∧
    (value.length ≠ 2 → exec .deadlineWrite s = .next (s.withHead (b.afterRecord 5 k.toNat value .badValue [])))) ∧
  (∀ (b : Batch) (k : Selector) (value : List Byte) (s : State), AtRecord s b 5 k.toNat 1 value →
    (value = [] → exec .deadlineRead s = .next (s.withHead (b.afterRecord 5 k.toNat value .done
      (twoBytes (s.deadline k).toNat)))) ∧
    (value = [] → k = 0 → EntryZeroUnlimited s → exec .deadlineRead s = .next (s.withHead (b.afterRecord 5 k.toNat value .done
      [0, 0]))) ∧
    (value ≠ [] → exec .deadlineRead s = .next (s.withHead (b.afterRecord 5 k.toNat value .badValue [])))) ∧
  (∀ (b : Batch) (index : Nat) (code : Byte) (value : List Byte) (s : State), AtRecord s b 5 index code value →
    code = 1 ∨ code = 2 → 15 < index →
    exec .badKey s = .next (s.withHead (b.afterRecord 5 index value .badKey [])))

/-- CONDITION_WRITE (R163), ACKNOWLEDGE (R164) and CONDITION_READ (R165, R175). That the flag byte of a READ is 1 for a set flag: log 24, DEDUCED. -/
def Obligations.ConditionRecords : Prop :=
  (∀ (b : Batch) (k : CondKind) (value : List Byte) (s : State), AtRecord s b 6 k.number 2 value →
    (∀ masked : Bool, value = [if masked then 1 else 0] →
      exec .conditionWrite s = .next (State.withHead { s.setCond k { s.cond k with masked := masked } with
        notices :=
          if (s.cond k).masked = true ∧ masked = false ∧ (s.cond k).flag = true ∧ k ∉ s.notices then s.notices ++ [k]
          else s.notices } (b.afterRecord 6 k.number value .done []))) ∧
    (value ≠ [0] → value ≠ [1] →
      exec .conditionWrite s = .next (s.withHead (b.afterRecord 6 k.number value .badValue [])))) ∧
  (∀ (b : Batch) (k : CondKind) (value : List Byte) (s : State), AtRecord s b 6 k.number 7 value →
    (value = [] → ∃ u, exec .acknowledge s = .next (u.withHead (b.afterRecord 6 k.number value .done [])) ∧ Cleared k s u) ∧
    (value ≠ [] → exec .acknowledge s = .next (s.withHead (b.afterRecord 6 k.number value .badValue [])))) ∧
  (∀ (b : Batch) (k : CondKind) (value : List Byte) (s : State), AtRecord s b 6 k.number 1 value →
    (value = [] → ∃ u, exec .conditionRead s = .next (u.withHead (b.afterRecord 6 k.number value .done
        ([if (s.cond k).flag then 1 else 0, if (s.cond k).masked then 1 else 0] ++ twoBytes (s.cond k).count ++
          fourBytes ((s.cond k).detail.getD 0)))) ∧
      (s.clearMode = .onAcknowledge → u = s) ∧ (s.clearMode = .onRead → Cleared k s u)) ∧
    (value ≠ [] → exec .conditionRead s = .next (s.withHead (b.afterRecord 6 k.number value .badValue []))))

/-- DEVICE_WRITE (R157, R110). -/
def Obligations.DeviceWriteChecksAndStores : Prop :=
  ∀ (b : Batch) (value : List Byte) (s : State), AtRecord s b 7 0 2 value →
    (∀ (reserve threshold : Nat) (target : SourceNo) (mode : ClearMode), reserve ≤ 2048 → threshold ≤ 1023 →
      value = deviceValue reserve threshold target mode →
      ((s.source target).codeMatches = false ∨ (s.source target).state ≠ .manager →
        exec .deviceWrite s = .next (s.withHead (b.afterRecord 7 0 value .badValue []))) ∧
      ((s.source target).codeMatches = true → (s.source target).state = .manager → 4096 - reserve < s.txPages →
        exec .deviceWrite s = .next (s.withHead (b.afterRecord 7 0 value .reserveConflict []))) ∧
      ((s.source target).codeMatches = true → (s.source target).state = .manager → s.txPages ≤ 4096 - reserve →
        exec .deviceWrite s = .next (State.withHead { s with
          reserve := reserve, slotLow := threshold, noticeTarget := target, clearMode := mode }
          (b.afterRecord 7 0 value .done [])))) ∧
    ((∀ (reserve threshold : Nat) (target : SourceNo) (mode : ClearMode), reserve ≤ 2048 → threshold ≤ 1023 →
      value ≠ deviceValue reserve threshold target mode) →
      exec .deviceWrite s = .next (s.withHead (b.afterRecord 7 0 value .badValue [])))

/-- DEVICE_READ (R158, R175). -/
def Obligations.DeviceReadReturnsViews : Prop :=
  ∀ (b : Batch) (value : List Byte) (s : State), AtRecord s b 7 0 1 value →
    ((value = [] ∨ value = [0]) →
      exec .deviceRead s = .next (s.withHead (b.afterRecord 7 0 value .done
        (twoBytes s.reserve ++ twoBytes s.slotLow ++
          [byteOf s.noticeTarget.toNat, clearModeCode s.clearMode, dispatchCode s.dispatch] ++ fourBytes s.deviceTime)))) ∧
    (value = [1] →
      exec .deviceRead s = .next (s.withHead (b.afterRecord 7 0 value .done
        (twoBytes (everySlot.filter (fun n => (s.slot n).state = .free)).length ++ twoBytes s.freePages ++
          twoBytes s.txPages ++ twoBytes s.compPages)))) ∧
    (value = [2] →
      exec .deviceRead s = .next (s.withHead (b.afterRecord 7 0 value .done
        [s.initPort.link.code, s.initPort.session, s.svcPort.link.code, s.svcPort.session, byteOf s.svcPort.credit,
          byteOf s.svcPort.creditLimit]))) ∧
    (value ≠ [] → value ≠ [0] → value ≠ [1] → value ≠ [2] →
      exec .deviceRead s = .next (s.withHead (b.afterRecord 7 0 value .badValue [])))

/-- DISPATCH (R72). -/
def Obligations.DispatchSetsState : Prop :=
  ∀ (b : Batch) (value : List Byte) (s : State), AtRecord s b 7 0 8 value →
    (value = [0] → exec .dispatch s = .next (State.withHead { s with dispatch := .paused } (b.afterRecord 7 0 value .done []))) ∧
    (value = [1] → exec .dispatch s = .next (State.withHead { s with dispatch := .run } (b.afterRecord 7 0 value .done []))) ∧
    (value ≠ [0] → value ≠ [1] → exec .dispatch s = .next (s.withHead (b.afterRecord 7 0 value .badValue [])))

/-- RESTART (R141, R138, R18, R37, R60, R71, R116, R130, R149, R166). -/
def Obligations.RestartResetsBlocks : Prop :=
  ∀ (b : Batch) (value : List Byte) (s : State), AtRecord s b 7 0 9 value →
    (value = [] → DeviceLaws s →
      ∃ u more later, b.bytes.drop b.offset = recordBytes 7 0 9 value ++ later ∧ Walks (b.position + 1) later more ∧
        Restarted s u ∧ exec .restart s = .next (u.finished b (b.applied + 1) .done more)) ∧
    (value ≠ [] → exec .restart s = .next (s.withHead (b.afterRecord 7 0 value .badValue [])))

/-- SLOT_READ and SLOT_WRITE (R35, R175; the pages held, a FREE slot's views and the WRITE: logs 15, 16 and 26, DEDUCED). -/
def Obligations.SlotReadAndWrite : Prop :=
  (∀ (b : Batch) (n : SlotNo) (value : List Byte) (s : State), AtRecord s b 8 n.toNat 1 value →
    ((value = [] ∨ value = [0]) → (s.slot n).state = .free →
      exec .slotRead s = .next (s.withHead (b.afterRecord 8 n.toNat value .done [0, 0, 0, 0, 0, 0, 0, 0, 0, 0, 0, 0]))) ∧
    (value = [1] → (s.slot n).state = .free →
      exec .slotRead s = .next (s.withHead (b.afterRecord 8 n.toNat value .done
        [0, 0, 0, 0, 0, 0, 0, 0, 0, 0, 0, 0, 0, 0, 0, 0]))) ∧
    ((value = [] ∨ value = [0]) → (s.slot n).state ≠ .free →
      exec .slotRead s = .next (s.withHead (b.afterRecord 8 n.toNat value .done
        ([slotStateCode (s.slot n).state, slotKindCode (s.slot n).kind, byteOf (s.slot n).source.toNat, (s.slot n).tag,
          byteOf (s.slot n).domain.toNat] ++ twoBytes (s.slot n).stream.toNat ++
          [(s.slot n).takeGate, (s.slot n).giveGate, byteOf (s.slot n).priority.toNat, byteOf (s.slot n).selector.toNat,
            byteOf ((if (s.slot n).giveOnCompletion then 1 else 0) + (if (s.slot n).completionExpected then 2 else 0))])))) ∧
    (value = [1] → (s.slot n).state ≠ .free →
      exec .slotRead s = .next (s.withHead (b.afterRecord 8 n.toNat value .done
        (twoBytes (s.slot n).payloadLength ++ [byteOf ((s.slot n).pages + Answer.heldPages (s.slot n).answer)] ++
          fourBytes (s.slot n).arrival ++
          (match (s.slot n).holdDeadline.or (s.slot n).serviceDeadline with
            | none => [0, 0, 0, 0, 0]
            | some d => [1] ++ fourBytes (d.start + BitVec.ofNat 32 (d.units.toNat * 16))) ++
          (match (s.slot n).answer with
            | none => [0, 0, 0, 0]
            | some (.result status payload _) => [1, status] ++ twoBytes payload.length
            | some .clear => [2, 0, 0, 0]
            | some (.close code) => [3, closeCodeValue code, 0, 0]))))) ∧
    (value ≠ [] → value ≠ [0] → value ≠ [1] →
      exec .slotRead s = .next (s.withHead (b.afterRecord 8 n.toNat value .badValue [])))) ∧
  (∀ (b : Batch) (n : SlotNo) (value : List Byte) (s : State), AtRecord s b 8 n.toNat 2 value →
    exec .slotWrite s = .next (s.withHead (b.afterRecord 8 n.toNat value .wrongState [])))

/-- RECLAIM (R88). -/
def Obligations.ReclaimFreesLapsedSlot : Prop :=
  (∀ (b : Batch) (n : SlotNo) (value : List Byte) (s : State), AtRecord s b 8 n.toNat 6 value →
    (∀ give : Bool, value = [if give then 1 else 0] → (s.slot n).state = .lapsed →
      ∃ u t, Freed n s u ∧ GaveIf (give && (s.slot n).giveOnCompletion) (s.slot n).giveGate u t ∧
        exec .reclaim s = .next (t.withHead (b.afterRecord 8 n.toNat value .done []))) ∧
    ((value = [0] ∨ value = [1]) → (s.slot n).state ≠ .lapsed →
      exec .reclaim s = .next (s.withHead (b.afterRecord 8 n.toNat value .wrongState []))) ∧
    (value ≠ [0] → value ≠ [1] → exec .reclaim s = .next (s.withHead (b.afterRecord 8 n.toNat value .badValue [])))) ∧
  (∀ (b : Batch) (table index : Nat) (value : List Byte) (s : State), AtRecord s b table index 6 value →
    table ≠ 8 ∨ 1023 < index → exec .badKey s = .next (s.withHead (b.afterRecord table index value .badKey [])))

/-- The access table and the governing code (R48). -/
def Obligations.AccessCodesPermitKinds : Prop :=
  (∀ (a : Access) (k : InKind), k.isFlow = true → (Access.permits a k = true ↔
    (a = .post ∧ k = .post) ∨ (a = .sync ∧ (k = .await ∨ k = .post)) ∨ (a = .serve ∧ k = .transact) ∨ a = .full)) ∧
  (∀ (p : Packet) (s : State), ((s.source p.source).cls = .a → governingAccess s p = (flowEntry s p).accessA) ∧
    ((s.source p.source).cls = .b → governingAccess s p = (flowEntry s p).accessB)) ∧
  (∀ (k : InKind) (p : Packet) (later : List Packet) (s : State), k.isFlow = true → s.initPort.rx = p :: later →
    s.brief.length < 32 → p.kindCode = k.code →
    (∀ r, (reasonValue r).toNat < 10 → ¬ CheckFails k p s r) → Access.permits (governingAccess s p) k = false →
    ∃ u t, exec k.row s = .next t ∧ TookOldest .initiator s u ∧ Refused p .accessDenied u t)

/-- The 8-byte header (R172): layout, and build and read agree in both directions. -/
def Obligations.HeaderFieldsRoundTrip : Prop :=
  (∀ (kind : BitVec 4) (domain : DomainNo) (source : SourceNo) (tag : SlotNo) (stream : StreamNo) (specific : Byte)
    (payload : List Byte) (p : Packet), payload.length ≤ 544 →
    p = Packet.build kind domain source (tag.extractLsb' 0 8) (tag.extractLsb' 8 2) stream specific payload →
    p.b0.toNat = kind.toNat * 16 + domain.toNat * 4 ∧ p.b1.toNat = source.toNat ∧ p.b2.toNat = tag.toNat % 256 ∧
    p.b3.toNat = tag.toNat / 256 * 64 + stream.toNat / 256 ∧ p.b4.toNat = stream.toNat % 256 ∧
    p.b5.toNat = payload.length / 256 ∧ p.b6.toNat = payload.length % 256 ∧ p.b7 = specific ∧
    p.kindCode = kind ∧ p.domain = domain ∧ p.source = source ∧ p.tag = tag.extractLsb' 0 8 ∧ p.trackingTag = tag ∧
    p.stream = stream ∧ p.lengthField = payload.length ∧ p.specific = specific ∧ p.payload = payload ∧
    p.serviceFillZero = true ∧ (tag.toNat < 256 → p.initiatorFillZero = true)) ∧
  (∀ p : Packet, p.serviceFillZero = true → p.payload.length = p.lengthField →
    Packet.build p.kindCode p.domain p.source (p.trackingTag.extractLsb' 0 8) (p.trackingTag.extractLsb' 8 2) p.stream
      p.specific p.payload = p) ∧
  (∀ p : Packet, p.initiatorFillZero = true → p.payload.length = p.lengthField →
    Packet.build p.kindCode p.domain p.source p.tag 0 p.stream p.specific p.payload = p)

/-- The canonical form of the tables (the model's own law) is kept by every step. -/
def Obligations.StepKeepsTablesCanonical : Prop := ∀ s t : State, TablesCanonical s → step s = .next t → TablesCanonical t

/-- The laws of R124, R160 and R162 are kept by every step. -/
def Obligations.StepKeepsConditionsLawful : Prop := ∀ s t : State, ConditionsLawful s → step s = .next t → ConditionsLawful t

/-- The bounds of R122, R123, R125, R131, R134 and R168 are kept by every step. -/
def Obligations.StepKeepsQueuesAndEngine : Prop := ∀ s t : State, (QueuesBounded s ∧ EngineLawful s) → step s = .next t → (QueuesBounded t ∧ EngineLawful t)

/-- The credit laws of R65, R167, R168 and R177 are kept by every step (the partner's account: log 10, DESIGN CHOICE). -/
def Obligations.StepKeepsPortsLawful : Prop := ∀ s t : State, PortsLawful s → step s = .next t → PortsLawful t

/-- The laws of R1 to R3, R24, R29, R31 to R33, R36, R108, R109, R122 to R125, R131, R146, R149, R160 and R168 are kept by every step (the partner's account: log 10, DESIGN CHOICE). -/
def Obligations.StepKeepsDeviceLaws : Prop := ∀ s t : State, DeviceLaws s → step s = .next t → DeviceLaws t

/-- All laws hold in the state after reset. -/
def Obligations.DeviceLawsHoldAtReset : Prop := DeviceLaws State.reset
end

