-- ==== Sys2Proof/Laws/Table.lean ====
section
/-! SUPPORT. What the numbered tables do: an entry set is read back, the others are as before, and the canonical form is kept. -/

namespace Sys2Proof.Machine.Table

variable {α : Type} {d : α} {t : Table α} {k j lim : Nat} {v : α}

theorem get_nil : get d ([] : Table α) k = d := rfl

theorem get_erase_same (d : α) (t : Table α) (k : Nat) : get d (erase t k) k = d := by
  induction t with
  | nil => rfl
  | cons e t ih =>
    by_cases h : e.1 = k
    · have : erase (e :: t) k = erase t k := by simp [erase, h]
      rw [this]; exact ih
    · have : erase (e :: t) k = e :: erase t k := by simp [erase, h]
      rw [this]; simpa [get, h] using ih

theorem get_erase_other (d : α) (t : Table α) (h : j ≠ k) : get d (erase t k) j = get d t j := by
  induction t with
  | nil => rfl
  | cons e t ih =>
    by_cases he : e.1 = k
    · have h1 : erase (e :: t) k = erase t k := by simp [erase, he]
      have h2 : e.1 ≠ j := fun h' => h (h'.symm.trans he)
      rw [h1, ih]; simp [get, h2]
    · have h1 : erase (e :: t) k = e :: erase t k := by simp [erase, he]
      rw [h1]; by_cases hj : e.1 = j
      · simp [get, hj]
      · simpa [get, hj] using ih

theorem get_insert_other (d : α) (t : Table α) (v : α) (h : j ≠ k) : get d (insert k v t) j = get d t j := by
  induction t with
  | nil => simp [insert, get, Ne.symm h]
  | cons e t ih =>
    obtain ⟨k', v'⟩ := e
    by_cases hk : k < k'
    · simp [insert, hk, get, Ne.symm h]
    · by_cases hj : k' = j
      · subst hj; simp [insert, hk, get]
      · simpa [insert, hk, get, hj] using ih

theorem get_insert_same (d : α) (t : Table α) (v : α) (h : ∀ e ∈ t, e.1 ≠ k) : get d (insert k v t) k = v := by
  induction t with
  | nil => simp [insert, get]
  | cons e t ih =>
    obtain ⟨k', v'⟩ := e
    have hk' : k' ≠ k := h (k', v') (by simp)
    by_cases hk : k < k'
    · simp [insert, hk, get]
    · simpa [insert, hk, get, hk'] using ih (fun e he => h e (by simp [he]))

theorem mem_erase {e : Nat × α} : e ∈ erase t k ↔ e ∈ t ∧ e.1 ≠ k := by simp [erase]

theorem mem_insert {e : Nat × α} : e ∈ insert k v t ↔ e = (k, v) ∨ e ∈ t := by
  induction t with
  | nil => simp [insert]
  | cons e' t ih =>
    obtain ⟨k', v'⟩ := e'
    by_cases hk : k < k'
    · simp [insert, hk]
    · simp only [insert, hk, if_false, List.mem_cons, ih]; tauto

variable [DecidableEq α]

/-- The entry set is read back. -/
theorem get_set_same (d : α) (t : Table α) (k : Nat) (v : α) : get d (set d t k v) k = v := by
  unfold set
  split
  · rename_i h; rw [get_erase_same, h]
  · exact get_insert_same d _ v (fun e he => (mem_erase.mp he).2)

/-- Every other entry is as before. -/
theorem get_set_other (d : α) (t : Table α) (v : α) (h : j ≠ k) : get d (set d t k v) j = get d t j := by
  unfold set
  split
  · exact get_erase_other d t h
  · rw [get_insert_other d _ v h, get_erase_other d t h]

/-- Reading an entry after setting one. -/
theorem get_set (d : α) (t : Table α) (k j : Nat) (v : α) :
    get d (set d t k v) j = if j = k then v else get d t j := by
  by_cases h : j = k
  · subst h; simp [get_set_same]
  · simp [h, get_set_other d t v h]

theorem mem_set {e : Nat × α} (h : e ∈ set d t k v) : e = (k, v) ∨ e ∈ t := by
  unfold set at h
  split at h
  · exact Or.inr (mem_erase.mp h).1
  · rcases mem_insert.mp h with h | h
    · exact Or.inl h
    · exact Or.inr (mem_erase.mp h).1

omit [DecidableEq α] in
theorem pairwise_erase (h : t.Pairwise (fun x y => x.1 < y.1)) : (erase t k).Pairwise (fun x y => x.1 < y.1) :=
  h.filter _

omit [DecidableEq α] in
theorem pairwise_insert (h : t.Pairwise (fun x y => x.1 < y.1)) (hk : ∀ e ∈ t, e.1 ≠ k) :
    (insert k v t).Pairwise (fun x y => x.1 < y.1) := by
  induction t with
  | nil => simp [insert]
  | cons e t ih =>
    obtain ⟨k', v'⟩ := e
    rw [List.pairwise_cons] at h
    by_cases hlt : k < k'
    · simp only [insert, hlt, if_true]
      refine List.pairwise_cons.mpr ⟨?_, List.pairwise_cons.mpr h⟩
      intro e he
      rcases List.mem_cons.mp he with he | he
      · subst he; exact hlt
      · exact Nat.lt_trans hlt (h.1 e he)
    · simp only [insert, hlt, if_false]
      have hne : k' ≠ k := hk (k', v') (by simp)
      refine List.pairwise_cons.mpr ⟨?_, ih h.2 (fun e he => hk e (by simp [he]))⟩
      intro e he
      rcases mem_insert.mp he with he | he
      · subst he; exact Nat.lt_of_le_of_ne (Nat.le_of_not_lt hlt) hne
      · exact h.1 e he

/-- Setting an entry keeps the canonical form. -/
theorem wf_set (h : Wf d t) (k : Nat) (v : α) : Wf d (set d t k v) := by
  refine ⟨?_, ?_⟩
  · unfold set
    split
    · exact pairwise_erase h.1
    · exact pairwise_insert (pairwise_erase h.1) (fun e he => (mem_erase.mp he).2)
  · intro e he
    unfold set at he
    split at he
    · exact h.2 e (mem_erase.mp he).1
    · rename_i hv
      rcases mem_insert.mp he with he | he
      · subst he; exact hv
      · exact h.2 e (mem_erase.mp he).1

omit [DecidableEq α] in
theorem wf_nil : Wf d ([] : Table α) := ⟨List.Pairwise.nil, by simp⟩

/-- Changing every listed entry keeps the canonical form. -/
theorem wf_mapValues (h : Wf d t) (f : α → α) : Wf d (mapValues d f t) := by
  refine ⟨?_, ?_⟩
  · unfold mapValues
    refine List.Pairwise.filter _ ?_
    rw [List.pairwise_map]; exact h.1
  · intro e he
    have := (List.mem_filter.mp he).2
    simpa using this

omit [DecidableEq α] in
/-- An unlisted number reads as d. -/
theorem get_unlisted (h : ∀ e ∈ t, e.1 ≠ k) : get d t k = d := by
  induction t with
  | nil => rfl
  | cons e t ih =>
    have h1 : e.1 ≠ k := h e (by simp)
    simpa [get, h1] using ih (fun e he => h e (by simp [he]))

omit [DecidableEq α] in
/-- An entry is d or listed. -/
theorem get_mem (d : α) (t : Table α) (k : Nat) : get d t k = d ∨ (k, get d t k) ∈ t := by
  induction t with
  | nil => exact Or.inl rfl
  | cons e t ih =>
    obtain ⟨k', v'⟩ := e
    by_cases h : k' = k
    · subst h; right; simp [get]
    · rcases ih with ih | ih
      · left; simpa [get, h] using ih
      · right; simp only [get, h, if_false]; exact List.mem_cons_of_mem _ ih

omit [DecidableEq α] in
/-- A listed entry is read back, in a canonical table. -/
theorem get_of_mem (h : Wf d t) {e : Nat × α} (he : e ∈ t) : get d t e.1 = e.2 := by
  obtain ⟨h, -⟩ := h
  induction t with
  | nil => simp at he
  | cons e' t ih =>
    rw [List.pairwise_cons] at h
    rcases List.mem_cons.mp he with he' | he'
    · subst he'; simp [get]
    · have : e'.1 ≠ e.1 := Nat.ne_of_lt (h.1 e he')
      simpa [get, this] using ih he' h.2

/-- Reading an entry after changing every listed entry, in a canonical table, by a function that keeps d. -/
theorem get_mapValues (h : Wf d t) {f : α → α} (hf : f d = d) (k : Nat) :
    get d (mapValues d f t) k = f (get d t k) := by
  have hw := wf_mapValues h f
  rcases get_mem d t k with hk | hk
  · have hu : ∀ e ∈ mapValues d f t, e.1 ≠ k := by
      intro e he hek
      simp only [mapValues, List.mem_filter, List.mem_map] at he
      obtain ⟨⟨e0, he0, rfl⟩, hne⟩ := he
      have := get_of_mem h he0
      simp only at hek
      rw [hek, hk] at this
      simp [← this, hf] at hne
    rw [get_unlisted hu, hk, hf]
  · by_cases hd : f (get d t k) = d
    · have hu : ∀ e ∈ mapValues d f t, e.1 ≠ k := by
        intro e he hek
        simp only [mapValues, List.mem_filter, List.mem_map] at he
        obtain ⟨⟨e0, he0, rfl⟩, hne⟩ := he
        have := get_of_mem h he0
        simp only at hek
        rw [hek] at this
        rw [← this, hd] at hne
        simp at hne
      rw [get_unlisted hu, hd]
    · have hm : (k, f (get d t k)) ∈ mapValues d f t := by
        simp only [mapValues, List.mem_filter, List.mem_map]
        exact ⟨⟨_, hk, rfl⟩, by simpa using hd⟩
      exact get_of_mem hw hm

omit [DecidableEq α] in
/-- Two canonical tables that read alike are equal. -/
theorem ext_of_wf {t u : Table α} (ht : Wf d t) (hu : Wf d u) (h : ∀ k, get d t k = get d u k) : t = u := by
  have hsub : ∀ {t u : Table α}, Wf d t → Wf d u → (∀ k, get d t k = get d u k) → ∀ e ∈ t, e ∈ u := by
    intro t u ht hu h e he
    have h1 := get_of_mem ht he
    rcases get_mem d u e.1 with h2 | h2
    · exact absurd (h1.symm.trans ((h e.1).trans h2)) (ht.2 e he)
    · rw [← h e.1, h1] at h2; exact h2
  refine List.Perm.eq_of_pairwise (le := fun x y : Nat × α => x.1 < y.1) ?_ ht.1 hu.1 ?_
  · intro a b _ _ hab hba
    exact absurd hab (Nat.lt_asymm hba)
  · have nd : ∀ {t : Table α}, Wf d t → t.Nodup := fun ht => ht.1.imp (fun hlt heq => by
      rw [heq] at hlt; exact Nat.lt_irrefl _ hlt)
    exact (List.perm_ext_iff_of_nodup (nd ht) (nd hu)).mpr
      (fun e => ⟨hsub ht hu h e, hsub hu ht (fun k => (h k).symm) e⟩)

end Sys2Proof.Machine.Table
end

