-- ==== Sys2Proof/Laws/State.lean ====
section
/-! SUPPORT. What each update of the state leaves as it was: one lemma a field and update, and one a reading and update. -/

namespace Sys2Proof.Machine.State

variable (s : State)


/-! ### setSlot -/

@[simp] theorem setSlot_resetAsserted (n : SlotNo) (x : Slot) : (s.setSlot n x).resetAsserted = s.resetAsserted := rfl
@[simp] theorem setSlot_straps (n : SlotNo) (x : Slot) : (s.setSlot n x).straps = s.straps := rfl
@[simp] theorem setSlot_ownSession (n : SlotNo) (x : Slot) : (s.setSlot n x).ownSession = s.ownSession := rfl
@[simp] theorem setSlot_storedSession (n : SlotNo) (x : Slot) : (s.setSlot n x).storedSession = s.storedSession := rfl
@[simp] theorem setSlot_initPort (n : SlotNo) (x : Slot) : (s.setSlot n x).initPort = s.initPort := rfl
@[simp] theorem setSlot_svcPort (n : SlotNo) (x : Slot) : (s.setSlot n x).svcPort = s.svcPort := rfl
@[simp] theorem setSlot_sources (n : SlotNo) (x : Slot) : (s.setSlot n x).sources = s.sources := rfl
@[simp] theorem setSlot_domains (n : SlotNo) (x : Slot) : (s.setSlot n x).domains = s.domains := rfl
@[simp] theorem setSlot_streams (n : SlotNo) (x : Slot) : (s.setSlot n x).streams = s.streams := rfl
@[simp] theorem setSlot_reserve (n : SlotNo) (x : Slot) : (s.setSlot n x).reserve = s.reserve := rfl
@[simp] theorem setSlot_slotLow (n : SlotNo) (x : Slot) : (s.setSlot n x).slotLow = s.slotLow := rfl
@[simp] theorem setSlot_noticeTarget (n : SlotNo) (x : Slot) : (s.setSlot n x).noticeTarget = s.noticeTarget := rfl
@[simp] theorem setSlot_clearMode (n : SlotNo) (x : Slot) : (s.setSlot n x).clearMode = s.clearMode := rfl
@[simp] theorem setSlot_dispatch (n : SlotNo) (x : Slot) : (s.setSlot n x).dispatch = s.dispatch := rfl
@[simp] theorem setSlot_gates (n : SlotNo) (x : Slot) : (s.setSlot n x).gates = s.gates := rfl
@[simp] theorem setSlot_tagIndex (n : SlotNo) (x : Slot) : (s.setSlot n x).tagIndex = s.tagIndex := rfl
@[simp] theorem setSlot_ladder (n : SlotNo) (x : Slot) : (s.setSlot n x).ladder = s.ladder := rfl
@[simp] theorem setSlot_deviceTime (n : SlotNo) (x : Slot) : (s.setSlot n x).deviceTime = s.deviceTime := rfl
@[simp] theorem setSlot_deadlines (n : SlotNo) (x : Slot) : (s.setSlot n x).deadlines = s.deadlines := rfl
@[simp] theorem setSlot_freePages (n : SlotNo) (x : Slot) : (s.setSlot n x).freePages = s.freePages := rfl
@[simp] theorem setSlot_txPages (n : SlotNo) (x : Slot) : (s.setSlot n x).txPages = s.txPages := rfl
@[simp] theorem setSlot_compPages (n : SlotNo) (x : Slot) : (s.setSlot n x).compPages = s.compPages := rfl
@[simp] theorem setSlot_answers (n : SlotNo) (x : Slot) : (s.setSlot n x).answers = s.answers := rfl
@[simp] theorem setSlot_brief (n : SlotNo) (x : Slot) : (s.setSlot n x).brief = s.brief := rfl
@[simp] theorem setSlot_reports (n : SlotNo) (x : Slot) : (s.setSlot n x).reports = s.reports := rfl
@[simp] theorem setSlot_notices (n : SlotNo) (x : Slot) : (s.setSlot n x).notices = s.notices := rfl
@[simp] theorem setSlot_runCount (n : SlotNo) (x : Slot) : (s.setSlot n x).runCount = s.runCount := rfl
@[simp] theorem setSlot_batches (n : SlotNo) (x : Slot) : (s.setSlot n x).batches = s.batches := rfl
@[simp] theorem setSlot_engine (n : SlotNo) (x : Slot) : (s.setSlot n x).engine = s.engine := rfl
@[simp] theorem setSlot_conditions (n : SlotNo) (x : Slot) : (s.setSlot n x).conditions = s.conditions := rfl
@[simp] theorem setSlot_pending (n : SlotNo) (x : Slot) : (s.setSlot n x).pending = s.pending := rfl
@[simp] theorem gate_setSlot (n : SlotNo) (x : Slot) (h : GateNo) : (s.setSlot n x).gate h = s.gate h := rfl
@[simp] theorem source_setSlot (n : SlotNo) (x : Slot) (j : SourceNo) : (s.setSlot n x).source j = s.source j := rfl
@[simp] theorem domain_setSlot (n : SlotNo) (x : Slot) (e : DomainNo) : (s.setSlot n x).domain e = s.domain e := rfl
@[simp] theorem stream_setSlot (n : SlotNo) (x : Slot) (j : StreamIndex) : (s.setSlot n x).stream j = s.stream j := rfl
@[simp] theorem deadline_setSlot (n : SlotNo) (x : Slot) (j : Selector) : (s.setSlot n x).deadline j = s.deadline j := rfl
@[simp] theorem level_setSlot (n : SlotNo) (x : Slot) (m : Level) : (s.setSlot n x).level m = s.level m := rfl
@[simp] theorem tagged_setSlot (n : SlotNo) (x : Slot) (src' : SourceNo) (tag' : Byte) : (s.setSlot n x).tagged src' tag' = s.tagged src' tag' := rfl
@[simp] theorem cond_setSlot (n : SlotNo) (x : Slot) (j : CondKind) : (s.setSlot n x).cond j = s.cond j := rfl
@[simp] theorem port_setSlot (n : SlotNo) (x : Slot) (p : PortId) : (s.setSlot n x).port p = s.port p := by cases p <;> rfl

/-! ### setGate -/

@[simp] theorem setGate_resetAsserted (g : GateNo) (x : Gate) : (s.setGate g x).resetAsserted = s.resetAsserted := rfl
@[simp] theorem setGate_straps (g : GateNo) (x : Gate) : (s.setGate g x).straps = s.straps := rfl
@[simp] theorem setGate_ownSession (g : GateNo) (x : Gate) : (s.setGate g x).ownSession = s.ownSession := rfl
@[simp] theorem setGate_storedSession (g : GateNo) (x : Gate) : (s.setGate g x).storedSession = s.storedSession := rfl
@[simp] theorem setGate_initPort (g : GateNo) (x : Gate) : (s.setGate g x).initPort = s.initPort := rfl
@[simp] theorem setGate_svcPort (g : GateNo) (x : Gate) : (s.setGate g x).svcPort = s.svcPort := rfl
@[simp] theorem setGate_sources (g : GateNo) (x : Gate) : (s.setGate g x).sources = s.sources := rfl
@[simp] theorem setGate_domains (g : GateNo) (x : Gate) : (s.setGate g x).domains = s.domains := rfl
@[simp] theorem setGate_streams (g : GateNo) (x : Gate) : (s.setGate g x).streams = s.streams := rfl
@[simp] theorem setGate_reserve (g : GateNo) (x : Gate) : (s.setGate g x).reserve = s.reserve := rfl
@[simp] theorem setGate_slotLow (g : GateNo) (x : Gate) : (s.setGate g x).slotLow = s.slotLow := rfl
@[simp] theorem setGate_noticeTarget (g : GateNo) (x : Gate) : (s.setGate g x).noticeTarget = s.noticeTarget := rfl
@[simp] theorem setGate_clearMode (g : GateNo) (x : Gate) : (s.setGate g x).clearMode = s.clearMode := rfl
@[simp] theorem setGate_dispatch (g : GateNo) (x : Gate) : (s.setGate g x).dispatch = s.dispatch := rfl
@[simp] theorem setGate_slots (g : GateNo) (x : Gate) : (s.setGate g x).slots = s.slots := rfl
@[simp] theorem setGate_tagIndex (g : GateNo) (x : Gate) : (s.setGate g x).tagIndex = s.tagIndex := rfl
@[simp] theorem setGate_ladder (g : GateNo) (x : Gate) : (s.setGate g x).ladder = s.ladder := rfl
@[simp] theorem setGate_deviceTime (g : GateNo) (x : Gate) : (s.setGate g x).deviceTime = s.deviceTime := rfl
@[simp] theorem setGate_deadlines (g : GateNo) (x : Gate) : (s.setGate g x).deadlines = s.deadlines := rfl
@[simp] theorem setGate_freePages (g : GateNo) (x : Gate) : (s.setGate g x).freePages = s.freePages := rfl
@[simp] theorem setGate_txPages (g : GateNo) (x : Gate) : (s.setGate g x).txPages = s.txPages := rfl
@[simp] theorem setGate_compPages (g : GateNo) (x : Gate) : (s.setGate g x).compPages = s.compPages := rfl
@[simp] theorem setGate_answers (g : GateNo) (x : Gate) : (s.setGate g x).answers = s.answers := rfl
@[simp] theorem setGate_brief (g : GateNo) (x : Gate) : (s.setGate g x).brief = s.brief := rfl
@[simp] theorem setGate_reports (g : GateNo) (x : Gate) : (s.setGate g x).reports = s.reports := rfl
@[simp] theorem setGate_notices (g : GateNo) (x : Gate) : (s.setGate g x).notices = s.notices := rfl
@[simp] theorem setGate_runCount (g : GateNo) (x : Gate) : (s.setGate g x).runCount = s.runCount := rfl
@[simp] theorem setGate_batches (g : GateNo) (x : Gate) : (s.setGate g x).batches = s.batches := rfl
@[simp] theorem setGate_engine (g : GateNo) (x : Gate) : (s.setGate g x).engine = s.engine := rfl
@[simp] theorem setGate_conditions (g : GateNo) (x : Gate) : (s.setGate g x).conditions = s.conditions := rfl
@[simp] theorem setGate_pending (g : GateNo) (x : Gate) : (s.setGate g x).pending = s.pending := rfl
@[simp] theorem slot_setGate (g : GateNo) (x : Gate) (m : SlotNo) : (s.setGate g x).slot m = s.slot m := rfl
@[simp] theorem source_setGate (g : GateNo) (x : Gate) (j : SourceNo) : (s.setGate g x).source j = s.source j := rfl
@[simp] theorem domain_setGate (g : GateNo) (x : Gate) (e : DomainNo) : (s.setGate g x).domain e = s.domain e := rfl
@[simp] theorem stream_setGate (g : GateNo) (x : Gate) (j : StreamIndex) : (s.setGate g x).stream j = s.stream j := rfl
@[simp] theorem deadline_setGate (g : GateNo) (x : Gate) (j : Selector) : (s.setGate g x).deadline j = s.deadline j := rfl
@[simp] theorem level_setGate (g : GateNo) (x : Gate) (m : Level) : (s.setGate g x).level m = s.level m := rfl
@[simp] theorem tagged_setGate (g : GateNo) (x : Gate) (src' : SourceNo) (tag' : Byte) : (s.setGate g x).tagged src' tag' = s.tagged src' tag' := rfl
@[simp] theorem cond_setGate (g : GateNo) (x : Gate) (j : CondKind) : (s.setGate g x).cond j = s.cond j := rfl
@[simp] theorem port_setGate (g : GateNo) (x : Gate) (p : PortId) : (s.setGate g x).port p = s.port p := by cases p <;> rfl

/-! ### setSource -/

@[simp] theorem setSource_resetAsserted (i : SourceNo) (x : SourceEntry) : (s.setSource i x).resetAsserted = s.resetAsserted := rfl
@[simp] theorem setSource_straps (i : SourceNo) (x : SourceEntry) : (s.setSource i x).straps = s.straps := rfl
@[simp] theorem setSource_ownSession (i : SourceNo) (x : SourceEntry) : (s.setSource i x).ownSession = s.ownSession := rfl
@[simp] theorem setSource_storedSession (i : SourceNo) (x : SourceEntry) : (s.setSource i x).storedSession = s.storedSession := rfl
@[simp] theorem setSource_initPort (i : SourceNo) (x : SourceEntry) : (s.setSource i x).initPort = s.initPort := rfl
@[simp] theorem setSource_svcPort (i : SourceNo) (x : SourceEntry) : (s.setSource i x).svcPort = s.svcPort := rfl
@[simp] theorem setSource_domains (i : SourceNo) (x : SourceEntry) : (s.setSource i x).domains = s.domains := rfl
@[simp] theorem setSource_streams (i : SourceNo) (x : SourceEntry) : (s.setSource i x).streams = s.streams := rfl
@[simp] theorem setSource_reserve (i : SourceNo) (x : SourceEntry) : (s.setSource i x).reserve = s.reserve := rfl
@[simp] theorem setSource_slotLow (i : SourceNo) (x : SourceEntry) : (s.setSource i x).slotLow = s.slotLow := rfl
@[simp] theorem setSource_noticeTarget (i : SourceNo) (x : SourceEntry) : (s.setSource i x).noticeTarget = s.noticeTarget := rfl
@[simp] theorem setSource_clearMode (i : SourceNo) (x : SourceEntry) : (s.setSource i x).clearMode = s.clearMode := rfl
@[simp] theorem setSource_dispatch (i : SourceNo) (x : SourceEntry) : (s.setSource i x).dispatch = s.dispatch := rfl
@[simp] theorem setSource_gates (i : SourceNo) (x : SourceEntry) : (s.setSource i x).gates = s.gates := rfl
@[simp] theorem setSource_slots (i : SourceNo) (x : SourceEntry) : (s.setSource i x).slots = s.slots := rfl
@[simp] theorem setSource_tagIndex (i : SourceNo) (x : SourceEntry) : (s.setSource i x).tagIndex = s.tagIndex := rfl
@[simp] theorem setSource_ladder (i : SourceNo) (x : SourceEntry) : (s.setSource i x).ladder = s.ladder := rfl
@[simp] theorem setSource_deviceTime (i : SourceNo) (x : SourceEntry) : (s.setSource i x).deviceTime = s.deviceTime := rfl
@[simp] theorem setSource_deadlines (i : SourceNo) (x : SourceEntry) : (s.setSource i x).deadlines = s.deadlines := rfl
@[simp] theorem setSource_freePages (i : SourceNo) (x : SourceEntry) : (s.setSource i x).freePages = s.freePages := rfl
@[simp] theorem setSource_txPages (i : SourceNo) (x : SourceEntry) : (s.setSource i x).txPages = s.txPages := rfl
@[simp] theorem setSource_compPages (i : SourceNo) (x : SourceEntry) : (s.setSource i x).compPages = s.compPages := rfl
@[simp] theorem setSource_answers (i : SourceNo) (x : SourceEntry) : (s.setSource i x).answers = s.answers := rfl
@[simp] theorem setSource_brief (i : SourceNo) (x : SourceEntry) : (s.setSource i x).brief = s.brief := rfl
@[simp] theorem setSource_reports (i : SourceNo) (x : SourceEntry) : (s.setSource i x).reports = s.reports := rfl
@[simp] theorem setSource_notices (i : SourceNo) (x : SourceEntry) : (s.setSource i x).notices = s.notices := rfl
@[simp] theorem setSource_runCount (i : SourceNo) (x : SourceEntry) : (s.setSource i x).runCount = s.runCount := rfl
@[simp] theorem setSource_batches (i : SourceNo) (x : SourceEntry) : (s.setSource i x).batches = s.batches := rfl
@[simp] theorem setSource_engine (i : SourceNo) (x : SourceEntry) : (s.setSource i x).engine = s.engine := rfl
@[simp] theorem setSource_conditions (i : SourceNo) (x : SourceEntry) : (s.setSource i x).conditions = s.conditions := rfl
@[simp] theorem setSource_pending (i : SourceNo) (x : SourceEntry) : (s.setSource i x).pending = s.pending := rfl
@[simp] theorem slot_setSource (i : SourceNo) (x : SourceEntry) (m : SlotNo) : (s.setSource i x).slot m = s.slot m := rfl
@[simp] theorem gate_setSource (i : SourceNo) (x : SourceEntry) (h : GateNo) : (s.setSource i x).gate h = s.gate h := rfl
@[simp] theorem domain_setSource (i : SourceNo) (x : SourceEntry) (e : DomainNo) : (s.setSource i x).domain e = s.domain e := rfl
@[simp] theorem stream_setSource (i : SourceNo) (x : SourceEntry) (j : StreamIndex) : (s.setSource i x).stream j = s.stream j := rfl
@[simp] theorem deadline_setSource (i : SourceNo) (x : SourceEntry) (j : Selector) : (s.setSource i x).deadline j = s.deadline j := rfl
@[simp] theorem level_setSource (i : SourceNo) (x : SourceEntry) (m : Level) : (s.setSource i x).level m = s.level m := rfl
@[simp] theorem tagged_setSource (i : SourceNo) (x : SourceEntry) (src' : SourceNo) (tag' : Byte) : (s.setSource i x).tagged src' tag' = s.tagged src' tag' := rfl
@[simp] theorem cond_setSource (i : SourceNo) (x : SourceEntry) (j : CondKind) : (s.setSource i x).cond j = s.cond j := rfl
@[simp] theorem port_setSource (i : SourceNo) (x : SourceEntry) (p : PortId) : (s.setSource i x).port p = s.port p := by cases p <;> rfl

/-! ### setDomain -/

@[simp] theorem setDomain_resetAsserted (d : DomainNo) (x : DomainEntry) : (s.setDomain d x).resetAsserted = s.resetAsserted := rfl
@[simp] theorem setDomain_straps (d : DomainNo) (x : DomainEntry) : (s.setDomain d x).straps = s.straps := rfl
@[simp] theorem setDomain_ownSession (d : DomainNo) (x : DomainEntry) : (s.setDomain d x).ownSession = s.ownSession := rfl
@[simp] theorem setDomain_storedSession (d : DomainNo) (x : DomainEntry) : (s.setDomain d x).storedSession = s.storedSession := rfl
@[simp] theorem setDomain_initPort (d : DomainNo) (x : DomainEntry) : (s.setDomain d x).initPort = s.initPort := rfl
@[simp] theorem setDomain_svcPort (d : DomainNo) (x : DomainEntry) : (s.setDomain d x).svcPort = s.svcPort := rfl
@[simp] theorem setDomain_sources (d : DomainNo) (x : DomainEntry) : (s.setDomain d x).sources = s.sources := rfl
@[simp] theorem setDomain_streams (d : DomainNo) (x : DomainEntry) : (s.setDomain d x).streams = s.streams := rfl
@[simp] theorem setDomain_reserve (d : DomainNo) (x : DomainEntry) : (s.setDomain d x).reserve = s.reserve := rfl
@[simp] theorem setDomain_slotLow (d : DomainNo) (x : DomainEntry) : (s.setDomain d x).slotLow = s.slotLow := rfl
@[simp] theorem setDomain_noticeTarget (d : DomainNo) (x : DomainEntry) : (s.setDomain d x).noticeTarget = s.noticeTarget := rfl
@[simp] theorem setDomain_clearMode (d : DomainNo) (x : DomainEntry) : (s.setDomain d x).clearMode = s.clearMode := rfl
@[simp] theorem setDomain_dispatch (d : DomainNo) (x : DomainEntry) : (s.setDomain d x).dispatch = s.dispatch := rfl
@[simp] theorem setDomain_gates (d : DomainNo) (x : DomainEntry) : (s.setDomain d x).gates = s.gates := rfl
@[simp] theorem setDomain_slots (d : DomainNo) (x : DomainEntry) : (s.setDomain d x).slots = s.slots := rfl
@[simp] theorem setDomain_tagIndex (d : DomainNo) (x : DomainEntry) : (s.setDomain d x).tagIndex = s.tagIndex := rfl
@[simp] theorem setDomain_ladder (d : DomainNo) (x : DomainEntry) : (s.setDomain d x).ladder = s.ladder := rfl
@[simp] theorem setDomain_deviceTime (d : DomainNo) (x : DomainEntry) : (s.setDomain d x).deviceTime = s.deviceTime := rfl
@[simp] theorem setDomain_deadlines (d : DomainNo) (x : DomainEntry) : (s.setDomain d x).deadlines = s.deadlines := rfl
@[simp] theorem setDomain_freePages (d : DomainNo) (x : DomainEntry) : (s.setDomain d x).freePages = s.freePages := rfl
@[simp] theorem setDomain_txPages (d : DomainNo) (x : DomainEntry) : (s.setDomain d x).txPages = s.txPages := rfl
@[simp] theorem setDomain_compPages (d : DomainNo) (x : DomainEntry) : (s.setDomain d x).compPages = s.compPages := rfl
@[simp] theorem setDomain_answers (d : DomainNo) (x : DomainEntry) : (s.setDomain d x).answers = s.answers := rfl
@[simp] theorem setDomain_brief (d : DomainNo) (x : DomainEntry) : (s.setDomain d x).brief = s.brief := rfl
@[simp] theorem setDomain_reports (d : DomainNo) (x : DomainEntry) : (s.setDomain d x).reports = s.reports := rfl
@[simp] theorem setDomain_notices (d : DomainNo) (x : DomainEntry) : (s.setDomain d x).notices = s.notices := rfl
@[simp] theorem setDomain_runCount (d : DomainNo) (x : DomainEntry) : (s.setDomain d x).runCount = s.runCount := rfl
@[simp] theorem setDomain_batches (d : DomainNo) (x : DomainEntry) : (s.setDomain d x).batches = s.batches := rfl
@[simp] theorem setDomain_engine (d : DomainNo) (x : DomainEntry) : (s.setDomain d x).engine = s.engine := rfl
@[simp] theorem setDomain_conditions (d : DomainNo) (x : DomainEntry) : (s.setDomain d x).conditions = s.conditions := rfl
@[simp] theorem setDomain_pending (d : DomainNo) (x : DomainEntry) : (s.setDomain d x).pending = s.pending := rfl
@[simp] theorem slot_setDomain (d : DomainNo) (x : DomainEntry) (m : SlotNo) : (s.setDomain d x).slot m = s.slot m := rfl
@[simp] theorem gate_setDomain (d : DomainNo) (x : DomainEntry) (h : GateNo) : (s.setDomain d x).gate h = s.gate h := rfl
@[simp] theorem source_setDomain (d : DomainNo) (x : DomainEntry) (j : SourceNo) : (s.setDomain d x).source j = s.source j := rfl
@[simp] theorem stream_setDomain (d : DomainNo) (x : DomainEntry) (j : StreamIndex) : (s.setDomain d x).stream j = s.stream j := rfl
@[simp] theorem deadline_setDomain (d : DomainNo) (x : DomainEntry) (j : Selector) : (s.setDomain d x).deadline j = s.deadline j := rfl
@[simp] theorem level_setDomain (d : DomainNo) (x : DomainEntry) (m : Level) : (s.setDomain d x).level m = s.level m := rfl
@[simp] theorem tagged_setDomain (d : DomainNo) (x : DomainEntry) (src' : SourceNo) (tag' : Byte) : (s.setDomain d x).tagged src' tag' = s.tagged src' tag' := rfl
@[simp] theorem cond_setDomain (d : DomainNo) (x : DomainEntry) (j : CondKind) : (s.setDomain d x).cond j = s.cond j := rfl
@[simp] theorem port_setDomain (d : DomainNo) (x : DomainEntry) (p : PortId) : (s.setDomain d x).port p = s.port p := by cases p <;> rfl

/-! ### setStream -/

@[simp] theorem setStream_resetAsserted (i : StreamIndex) (x : StreamEntry) : (s.setStream i x).resetAsserted = s.resetAsserted := rfl
@[simp] theorem setStream_straps (i : StreamIndex) (x : StreamEntry) : (s.setStream i x).straps = s.straps := rfl
@[simp] theorem setStream_ownSession (i : StreamIndex) (x : StreamEntry) : (s.setStream i x).ownSession = s.ownSession := rfl
@[simp] theorem setStream_storedSession (i : StreamIndex) (x : StreamEntry) : (s.setStream i x).storedSession = s.storedSession := rfl
@[simp] theorem setStream_initPort (i : StreamIndex) (x : StreamEntry) : (s.setStream i x).initPort = s.initPort := rfl
@[simp] theorem setStream_svcPort (i : StreamIndex) (x : StreamEntry) : (s.setStream i x).svcPort = s.svcPort := rfl
@[simp] theorem setStream_sources (i : StreamIndex) (x : StreamEntry) : (s.setStream i x).sources = s.sources := rfl
@[simp] theorem setStream_domains (i : StreamIndex) (x : StreamEntry) : (s.setStream i x).domains = s.domains := rfl
@[simp] theorem setStream_reserve (i : StreamIndex) (x : StreamEntry) : (s.setStream i x).reserve = s.reserve := rfl
@[simp] theorem setStream_slotLow (i : StreamIndex) (x : StreamEntry) : (s.setStream i x).slotLow = s.slotLow := rfl
@[simp] theorem setStream_noticeTarget (i : StreamIndex) (x : StreamEntry) : (s.setStream i x).noticeTarget = s.noticeTarget := rfl
@[simp] theorem setStream_clearMode (i : StreamIndex) (x : StreamEntry) : (s.setStream i x).clearMode = s.clearMode := rfl
@[simp] theorem setStream_dispatch (i : StreamIndex) (x : StreamEntry) : (s.setStream i x).dispatch = s.dispatch := rfl
@[simp] theorem setStream_gates (i : StreamIndex) (x : StreamEntry) : (s.setStream i x).gates = s.gates := rfl
@[simp] theorem setStream_slots (i : StreamIndex) (x : StreamEntry) : (s.setStream i x).slots = s.slots := rfl
@[simp] theorem setStream_tagIndex (i : StreamIndex) (x : StreamEntry) : (s.setStream i x).tagIndex = s.tagIndex := rfl
@[simp] theorem setStream_ladder (i : StreamIndex) (x : StreamEntry) : (s.setStream i x).ladder = s.ladder := rfl
@[simp] theorem setStream_deviceTime (i : StreamIndex) (x : StreamEntry) : (s.setStream i x).deviceTime = s.deviceTime := rfl
@[simp] theorem setStream_deadlines (i : StreamIndex) (x : StreamEntry) : (s.setStream i x).deadlines = s.deadlines := rfl
@[simp] theorem setStream_freePages (i : StreamIndex) (x : StreamEntry) : (s.setStream i x).freePages = s.freePages := rfl
@[simp] theorem setStream_txPages (i : StreamIndex) (x : StreamEntry) : (s.setStream i x).txPages = s.txPages := rfl
@[simp] theorem setStream_compPages (i : StreamIndex) (x : StreamEntry) : (s.setStream i x).compPages = s.compPages := rfl
@[simp] theorem setStream_answers (i : StreamIndex) (x : StreamEntry) : (s.setStream i x).answers = s.answers := rfl
@[simp] theorem setStream_brief (i : StreamIndex) (x : StreamEntry) : (s.setStream i x).brief = s.brief := rfl
@[simp] theorem setStream_reports (i : StreamIndex) (x : StreamEntry) : (s.setStream i x).reports = s.reports := rfl
@[simp] theorem setStream_notices (i : StreamIndex) (x : StreamEntry) : (s.setStream i x).notices = s.notices := rfl
@[simp] theorem setStream_runCount (i : StreamIndex) (x : StreamEntry) : (s.setStream i x).runCount = s.runCount := rfl
@[simp] theorem setStream_batches (i : StreamIndex) (x : StreamEntry) : (s.setStream i x).batches = s.batches := rfl
@[simp] theorem setStream_engine (i : StreamIndex) (x : StreamEntry) : (s.setStream i x).engine = s.engine := rfl
@[simp] theorem setStream_conditions (i : StreamIndex) (x : StreamEntry) : (s.setStream i x).conditions = s.conditions := rfl
@[simp] theorem setStream_pending (i : StreamIndex) (x : StreamEntry) : (s.setStream i x).pending = s.pending := rfl
@[simp] theorem slot_setStream (i : StreamIndex) (x : StreamEntry) (m : SlotNo) : (s.setStream i x).slot m = s.slot m := rfl
@[simp] theorem gate_setStream (i : StreamIndex) (x : StreamEntry) (h : GateNo) : (s.setStream i x).gate h = s.gate h := rfl
@[simp] theorem source_setStream (i : StreamIndex) (x : StreamEntry) (j : SourceNo) : (s.setStream i x).source j = s.source j := rfl
@[simp] theorem domain_setStream (i : StreamIndex) (x : StreamEntry) (e : DomainNo) : (s.setStream i x).domain e = s.domain e := rfl
@[simp] theorem deadline_setStream (i : StreamIndex) (x : StreamEntry) (j : Selector) : (s.setStream i x).deadline j = s.deadline j := rfl
@[simp] theorem level_setStream (i : StreamIndex) (x : StreamEntry) (m : Level) : (s.setStream i x).level m = s.level m := rfl
@[simp] theorem tagged_setStream (i : StreamIndex) (x : StreamEntry) (src' : SourceNo) (tag' : Byte) : (s.setStream i x).tagged src' tag' = s.tagged src' tag' := rfl
@[simp] theorem cond_setStream (i : StreamIndex) (x : StreamEntry) (j : CondKind) : (s.setStream i x).cond j = s.cond j := rfl
@[simp] theorem port_setStream (i : StreamIndex) (x : StreamEntry) (p : PortId) : (s.setStream i x).port p = s.port p := by cases p <;> rfl

/-! ### setDeadline -/

@[simp] theorem setDeadline_resetAsserted (k : Selector) (d : BitVec 16) : (s.setDeadline k d).resetAsserted = s.resetAsserted := rfl
@[simp] theorem setDeadline_straps (k : Selector) (d : BitVec 16) : (s.setDeadline k d).straps = s.straps := rfl
@[simp] theorem setDeadline_ownSession (k : Selector) (d : BitVec 16) : (s.setDeadline k d).ownSession = s.ownSession := rfl
@[simp] theorem setDeadline_storedSession (k : Selector) (d : BitVec 16) : (s.setDeadline k d).storedSession = s.storedSession := rfl
@[simp] theorem setDeadline_initPort (k : Selector) (d : BitVec 16) : (s.setDeadline k d).initPort = s.initPort := rfl
@[simp] theorem setDeadline_svcPort (k : Selector) (d : BitVec 16) : (s.setDeadline k d).svcPort = s.svcPort := rfl
@[simp] theorem setDeadline_sources (k : Selector) (d : BitVec 16) : (s.setDeadline k d).sources = s.sources := rfl
@[simp] theorem setDeadline_domains (k : Selector) (d : BitVec 16) : (s.setDeadline k d).domains = s.domains := rfl
@[simp] theorem setDeadline_streams (k : Selector) (d : BitVec 16) : (s.setDeadline k d).streams = s.streams := rfl
@[simp] theorem setDeadline_reserve (k : Selector) (d : BitVec 16) : (s.setDeadline k d).reserve = s.reserve := rfl
@[simp] theorem setDeadline_slotLow (k : Selector) (d : BitVec 16) : (s.setDeadline k d).slotLow = s.slotLow := rfl
@[simp] theorem setDeadline_noticeTarget (k : Selector) (d : BitVec 16) : (s.setDeadline k d).noticeTarget = s.noticeTarget := rfl
@[simp] theorem setDeadline_clearMode (k : Selector) (d : BitVec 16) : (s.setDeadline k d).clearMode = s.clearMode := rfl
@[simp] theorem setDeadline_dispatch (k : Selector) (d : BitVec 16) : (s.setDeadline k d).dispatch = s.dispatch := rfl
@[simp] theorem setDeadline_gates (k : Selector) (d : BitVec 16) : (s.setDeadline k d).gates = s.gates := rfl
@[simp] theorem setDeadline_slots (k : Selector) (d : BitVec 16) : (s.setDeadline k d).slots = s.slots := rfl
@[simp] theorem setDeadline_tagIndex (k : Selector) (d : BitVec 16) : (s.setDeadline k d).tagIndex = s.tagIndex := rfl
@[simp] theorem setDeadline_ladder (k : Selector) (d : BitVec 16) : (s.setDeadline k d).ladder = s.ladder := rfl
@[simp] theorem setDeadline_deviceTime (k : Selector) (d : BitVec 16) : (s.setDeadline k d).deviceTime = s.deviceTime := rfl
@[simp] theorem setDeadline_freePages (k : Selector) (d : BitVec 16) : (s.setDeadline k d).freePages = s.freePages := rfl
@[simp] theorem setDeadline_txPages (k : Selector) (d : BitVec 16) : (s.setDeadline k d).txPages = s.txPages := rfl
@[simp] theorem setDeadline_compPages (k : Selector) (d : BitVec 16) : (s.setDeadline k d).compPages = s.compPages := rfl
@[simp] theorem setDeadline_answers (k : Selector) (d : BitVec 16) : (s.setDeadline k d).answers = s.answers := rfl
@[simp] theorem setDeadline_brief (k : Selector) (d : BitVec 16) : (s.setDeadline k d).brief = s.brief := rfl
@[simp] theorem setDeadline_reports (k : Selector) (d : BitVec 16) : (s.setDeadline k d).reports = s.reports := rfl
@[simp] theorem setDeadline_notices (k : Selector) (d : BitVec 16) : (s.setDeadline k d).notices = s.notices := rfl
@[simp] theorem setDeadline_runCount (k : Selector) (d : BitVec 16) : (s.setDeadline k d).runCount = s.runCount := rfl
@[simp] theorem setDeadline_batches (k : Selector) (d : BitVec 16) : (s.setDeadline k d).batches = s.batches := rfl
@[simp] theorem setDeadline_engine (k : Selector) (d : BitVec 16) : (s.setDeadline k d).engine = s.engine := rfl
@[simp] theorem setDeadline_conditions (k : Selector) (d : BitVec 16) : (s.setDeadline k d).conditions = s.conditions := rfl
@[simp] theorem setDeadline_pending (k : Selector) (d : BitVec 16) : (s.setDeadline k d).pending = s.pending := rfl
@[simp] theorem slot_setDeadline (k : Selector) (d : BitVec 16) (m : SlotNo) : (s.setDeadline k d).slot m = s.slot m := rfl
@[simp] theorem gate_setDeadline (k : Selector) (d : BitVec 16) (h : GateNo) : (s.setDeadline k d).gate h = s.gate h := rfl
@[simp] theorem source_setDeadline (k : Selector) (d : BitVec 16) (j : SourceNo) : (s.setDeadline k d).source j = s.source j := rfl
@[simp] theorem domain_setDeadline (k : Selector) (d : BitVec 16) (e : DomainNo) : (s.setDeadline k d).domain e = s.domain e := rfl
@[simp] theorem stream_setDeadline (k : Selector) (d : BitVec 16) (j : StreamIndex) : (s.setDeadline k d).stream j = s.stream j := rfl
@[simp] theorem level_setDeadline (k : Selector) (d : BitVec 16) (m : Level) : (s.setDeadline k d).level m = s.level m := rfl
@[simp] theorem tagged_setDeadline (k : Selector) (d : BitVec 16) (src' : SourceNo) (tag' : Byte) : (s.setDeadline k d).tagged src' tag' = s.tagged src' tag' := rfl
@[simp] theorem cond_setDeadline (k : Selector) (d : BitVec 16) (j : CondKind) : (s.setDeadline k d).cond j = s.cond j := rfl
@[simp] theorem port_setDeadline (k : Selector) (d : BitVec 16) (p : PortId) : (s.setDeadline k d).port p = s.port p := by cases p <;> rfl

/-! ### setLevel -/

@[simp] theorem setLevel_resetAsserted (l : Level) (q : List SlotNo) : (s.setLevel l q).resetAsserted = s.resetAsserted := rfl
@[simp] theorem setLevel_straps (l : Level) (q : List SlotNo) : (s.setLevel l q).straps = s.straps := rfl
@[simp] theorem setLevel_ownSession (l : Level) (q : List SlotNo) : (s.setLevel l q).ownSession = s.ownSession := rfl
@[simp] theorem setLevel_storedSession (l : Level) (q : List SlotNo) : (s.setLevel l q).storedSession = s.storedSession := rfl
@[simp] theorem setLevel_initPort (l : Level) (q : List SlotNo) : (s.setLevel l q).initPort = s.initPort := rfl
@[simp] theorem setLevel_svcPort (l : Level) (q : List SlotNo) : (s.setLevel l q).svcPort = s.svcPort := rfl
@[simp] theorem setLevel_sources (l : Level) (q : List SlotNo) : (s.setLevel l q).sources = s.sources := rfl
@[simp] theorem setLevel_domains (l : Level) (q : List SlotNo) : (s.setLevel l q).domains = s.domains := rfl
@[simp] theorem setLevel_streams (l : Level) (q : List SlotNo) : (s.setLevel l q).streams = s.streams := rfl
@[simp] theorem setLevel_reserve (l : Level) (q : List SlotNo) : (s.setLevel l q).reserve = s.reserve := rfl
@[simp] theorem setLevel_slotLow (l : Level) (q : List SlotNo) : (s.setLevel l q).slotLow = s.slotLow := rfl
@[simp] theorem setLevel_noticeTarget (l : Level) (q : List SlotNo) : (s.setLevel l q).noticeTarget = s.noticeTarget := rfl
@[simp] theorem setLevel_clearMode (l : Level) (q : List SlotNo) : (s.setLevel l q).clearMode = s.clearMode := rfl
@[simp] theorem setLevel_dispatch (l : Level) (q : List SlotNo) : (s.setLevel l q).dispatch = s.dispatch := rfl
@[simp] theorem setLevel_gates (l : Level) (q : List SlotNo) : (s.setLevel l q).gates = s.gates := rfl
@[simp] theorem setLevel_slots (l : Level) (q : List SlotNo) : (s.setLevel l q).slots = s.slots := rfl
@[simp] theorem setLevel_tagIndex (l : Level) (q : List SlotNo) : (s.setLevel l q).tagIndex = s.tagIndex := rfl
@[simp] theorem setLevel_deviceTime (l : Level) (q : List SlotNo) : (s.setLevel l q).deviceTime = s.deviceTime := rfl
@[simp] theorem setLevel_deadlines (l : Level) (q : List SlotNo) : (s.setLevel l q).deadlines = s.deadlines := rfl
@[simp] theorem setLevel_freePages (l : Level) (q : List SlotNo) : (s.setLevel l q).freePages = s.freePages := rfl
@[simp] theorem setLevel_txPages (l : Level) (q : List SlotNo) : (s.setLevel l q).txPages = s.txPages := rfl
@[simp] theorem setLevel_compPages (l : Level) (q : List SlotNo) : (s.setLevel l q).compPages = s.compPages := rfl
@[simp] theorem setLevel_answers (l : Level) (q : List SlotNo) : (s.setLevel l q).answers = s.answers := rfl
@[simp] theorem setLevel_brief (l : Level) (q : List SlotNo) : (s.setLevel l q).brief = s.brief := rfl
@[simp] theorem setLevel_reports (l : Level) (q : List SlotNo) : (s.setLevel l q).reports = s.reports := rfl
@[simp] theorem setLevel_notices (l : Level) (q : List SlotNo) : (s.setLevel l q).notices = s.notices := rfl
@[simp] theorem setLevel_runCount (l : Level) (q : List SlotNo) : (s.setLevel l q).runCount = s.runCount := rfl
@[simp] theorem setLevel_batches (l : Level) (q : List SlotNo) : (s.setLevel l q).batches = s.batches := rfl
@[simp] theorem setLevel_engine (l : Level) (q : List SlotNo) : (s.setLevel l q).engine = s.engine := rfl
@[simp] theorem setLevel_conditions (l : Level) (q : List SlotNo) : (s.setLevel l q).conditions = s.conditions := rfl
@[simp] theorem setLevel_pending (l : Level) (q : List SlotNo) : (s.setLevel l q).pending = s.pending := rfl
@[simp] theorem slot_setLevel (l : Level) (q : List SlotNo) (m : SlotNo) : (s.setLevel l q).slot m = s.slot m := rfl
@[simp] theorem gate_setLevel (l : Level) (q : List SlotNo) (h : GateNo) : (s.setLevel l q).gate h = s.gate h := rfl
@[simp] theorem source_setLevel (l : Level) (q : List SlotNo) (j : SourceNo) : (s.setLevel l q).source j = s.source j := rfl
@[simp] theorem domain_setLevel (l : Level) (q : List SlotNo) (e : DomainNo) : (s.setLevel l q).domain e = s.domain e := rfl
@[simp] theorem stream_setLevel (l : Level) (q : List SlotNo) (j : StreamIndex) : (s.setLevel l q).stream j = s.stream j := rfl
@[simp] theorem deadline_setLevel (l : Level) (q : List SlotNo) (j : Selector) : (s.setLevel l q).deadline j = s.deadline j := rfl
@[simp] theorem tagged_setLevel (l : Level) (q : List SlotNo) (src' : SourceNo) (tag' : Byte) : (s.setLevel l q).tagged src' tag' = s.tagged src' tag' := rfl
@[simp] theorem cond_setLevel (l : Level) (q : List SlotNo) (j : CondKind) : (s.setLevel l q).cond j = s.cond j := rfl
@[simp] theorem port_setLevel (l : Level) (q : List SlotNo) (p : PortId) : (s.setLevel l q).port p = s.port p := by cases p <;> rfl

/-! ### setTagged -/

@[simp] theorem setTagged_resetAsserted (src : SourceNo) (tag : Byte) (n : Option SlotNo) : (s.setTagged src tag n).resetAsserted = s.resetAsserted := rfl
@[simp] theorem setTagged_straps (src : SourceNo) (tag : Byte) (n : Option SlotNo) : (s.setTagged src tag n).straps = s.straps := rfl
@[simp] theorem setTagged_ownSession (src : SourceNo) (tag : Byte) (n : Option SlotNo) : (s.setTagged src tag n).ownSession = s.ownSession := rfl
@[simp] theorem setTagged_storedSession (src : SourceNo) (tag : Byte) (n : Option SlotNo) : (s.setTagged src tag n).storedSession = s.storedSession := rfl
@[simp] theorem setTagged_initPort (src : SourceNo) (tag : Byte) (n : Option SlotNo) : (s.setTagged src tag n).initPort = s.initPort := rfl
@[simp] theorem setTagged_svcPort (src : SourceNo) (tag : Byte) (n : Option SlotNo) : (s.setTagged src tag n).svcPort = s.svcPort := rfl
@[simp] theorem setTagged_sources (src : SourceNo) (tag : Byte) (n : Option SlotNo) : (s.setTagged src tag n).sources = s.sources := rfl
@[simp] theorem setTagged_domains (src : SourceNo) (tag : Byte) (n : Option SlotNo) : (s.setTagged src tag n).domains = s.domains := rfl
@[simp] theorem setTagged_streams (src : SourceNo) (tag : Byte) (n : Option SlotNo) : (s.setTagged src tag n).streams = s.streams := rfl
@[simp] theorem setTagged_reserve (src : SourceNo) (tag : Byte) (n : Option SlotNo) : (s.setTagged src tag n).reserve = s.reserve := rfl
@[simp] theorem setTagged_slotLow (src : SourceNo) (tag : Byte) (n : Option SlotNo) : (s.setTagged src tag n).slotLow = s.slotLow := rfl
@[simp] theorem setTagged_noticeTarget (src : SourceNo) (tag : Byte) (n : Option SlotNo) : (s.setTagged src tag n).noticeTarget = s.noticeTarget := rfl
@[simp] theorem setTagged_clearMode (src : SourceNo) (tag : Byte) (n : Option SlotNo) : (s.setTagged src tag n).clearMode = s.clearMode := rfl
@[simp] theorem setTagged_dispatch (src : SourceNo) (tag : Byte) (n : Option SlotNo) : (s.setTagged src tag n).dispatch = s.dispatch := rfl
@[simp] theorem setTagged_gates (src : SourceNo) (tag : Byte) (n : Option SlotNo) : (s.setTagged src tag n).gates = s.gates := rfl
@[simp] theorem setTagged_slots (src : SourceNo) (tag : Byte) (n : Option SlotNo) : (s.setTagged src tag n).slots = s.slots := rfl
@[simp] theorem setTagged_ladder (src : SourceNo) (tag : Byte) (n : Option SlotNo) : (s.setTagged src tag n).ladder = s.ladder := rfl
@[simp] theorem setTagged_deviceTime (src : SourceNo) (tag : Byte) (n : Option SlotNo) : (s.setTagged src tag n).deviceTime = s.deviceTime := rfl
@[simp] theorem setTagged_deadlines (src : SourceNo) (tag : Byte) (n : Option SlotNo) : (s.setTagged src tag n).deadlines = s.deadlines := rfl
@[simp] theorem setTagged_freePages (src : SourceNo) (tag : Byte) (n : Option SlotNo) : (s.setTagged src tag n).freePages = s.freePages := rfl
@[simp] theorem setTagged_txPages (src : SourceNo) (tag : Byte) (n : Option SlotNo) : (s.setTagged src tag n).txPages = s.txPages := rfl
@[simp] theorem setTagged_compPages (src : SourceNo) (tag : Byte) (n : Option SlotNo) : (s.setTagged src tag n).compPages = s.compPages := rfl
@[simp] theorem setTagged_answers (src : SourceNo) (tag : Byte) (n : Option SlotNo) : (s.setTagged src tag n).answers = s.answers := rfl
@[simp] theorem setTagged_brief (src : SourceNo) (tag : Byte) (n : Option SlotNo) : (s.setTagged src tag n).brief = s.brief := rfl
@[simp] theorem setTagged_reports (src : SourceNo) (tag : Byte) (n : Option SlotNo) : (s.setTagged src tag n).reports = s.reports := rfl
@[simp] theorem setTagged_notices (src : SourceNo) (tag : Byte) (n : Option SlotNo) : (s.setTagged src tag n).notices = s.notices := rfl
@[simp] theorem setTagged_runCount (src : SourceNo) (tag : Byte) (n : Option SlotNo) : (s.setTagged src tag n).runCount = s.runCount := rfl
@[simp] theorem setTagged_batches (src : SourceNo) (tag : Byte) (n : Option SlotNo) : (s.setTagged src tag n).batches = s.batches := rfl
@[simp] theorem setTagged_engine (src : SourceNo) (tag : Byte) (n : Option SlotNo) : (s.setTagged src tag n).engine = s.engine := rfl
@[simp] theorem setTagged_conditions (src : SourceNo) (tag : Byte) (n : Option SlotNo) : (s.setTagged src tag n).conditions = s.conditions := rfl
@[simp] theorem setTagged_pending (src : SourceNo) (tag : Byte) (n : Option SlotNo) : (s.setTagged src tag n).pending = s.pending := rfl
@[simp] theorem slot_setTagged (src : SourceNo) (tag : Byte) (n : Option SlotNo) (m : SlotNo) : (s.setTagged src tag n).slot m = s.slot m := rfl
@[simp] theorem gate_setTagged (src : SourceNo) (tag : Byte) (n : Option SlotNo) (h : GateNo) : (s.setTagged src tag n).gate h = s.gate h := rfl
@[simp] theorem source_setTagged (src : SourceNo) (tag : Byte) (n : Option SlotNo) (j : SourceNo) : (s.setTagged src tag n).source j = s.source j := rfl
@[simp] theorem domain_setTagged (src : SourceNo) (tag : Byte) (n : Option SlotNo) (e : DomainNo) : (s.setTagged src tag n).domain e = s.domain e := rfl
@[simp] theorem stream_setTagged (src : SourceNo) (tag : Byte) (n : Option SlotNo) (j : StreamIndex) : (s.setTagged src tag n).stream j = s.stream j := rfl
@[simp] theorem deadline_setTagged (src : SourceNo) (tag : Byte) (n : Option SlotNo) (j : Selector) : (s.setTagged src tag n).deadline j = s.deadline j := rfl
@[simp] theorem level_setTagged (src : SourceNo) (tag : Byte) (n : Option SlotNo) (m : Level) : (s.setTagged src tag n).level m = s.level m := rfl
@[simp] theorem cond_setTagged (src : SourceNo) (tag : Byte) (n : Option SlotNo) (j : CondKind) : (s.setTagged src tag n).cond j = s.cond j := rfl
@[simp] theorem port_setTagged (src : SourceNo) (tag : Byte) (n : Option SlotNo) (p : PortId) : (s.setTagged src tag n).port p = s.port p := by cases p <;> rfl

/-! ### setCond -/

@[simp] theorem setCond_resetAsserted (k : CondKind) (x : CondEntry) : (s.setCond k x).resetAsserted = s.resetAsserted := rfl
@[simp] theorem setCond_straps (k : CondKind) (x : CondEntry) : (s.setCond k x).straps = s.straps := rfl
@[simp] theorem setCond_ownSession (k : CondKind) (x : CondEntry) : (s.setCond k x).ownSession = s.ownSession := rfl
@[simp] theorem setCond_storedSession (k : CondKind) (x : CondEntry) : (s.setCond k x).storedSession = s.storedSession := rfl
@[simp] theorem setCond_initPort (k : CondKind) (x : CondEntry) : (s.setCond k x).initPort = s.initPort := rfl
@[simp] theorem setCond_svcPort (k : CondKind) (x : CondEntry) : (s.setCond k x).svcPort = s.svcPort := rfl
@[simp] theorem setCond_sources (k : CondKind) (x : CondEntry) : (s.setCond k x).sources = s.sources := rfl
@[simp] theorem setCond_domains (k : CondKind) (x : CondEntry) : (s.setCond k x).domains = s.domains := rfl
@[simp] theorem setCond_streams (k : CondKind) (x : CondEntry) : (s.setCond k x).streams = s.streams := rfl
@[simp] theorem setCond_reserve (k : CondKind) (x : CondEntry) : (s.setCond k x).reserve = s.reserve := rfl
@[simp] theorem setCond_slotLow (k : CondKind) (x : CondEntry) : (s.setCond k x).slotLow = s.slotLow := rfl
@[simp] theorem setCond_noticeTarget (k : CondKind) (x : CondEntry) : (s.setCond k x).noticeTarget = s.noticeTarget := rfl
@[simp] theorem setCond_clearMode (k : CondKind) (x : CondEntry) : (s.setCond k x).clearMode = s.clearMode := rfl
@[simp] theorem setCond_dispatch (k : CondKind) (x : CondEntry) : (s.setCond k x).dispatch = s.dispatch := rfl
@[simp] theorem setCond_gates (k : CondKind) (x : CondEntry) : (s.setCond k x).gates = s.gates := rfl
@[simp] theorem setCond_slots (k : CondKind) (x : CondEntry) : (s.setCond k x).slots = s.slots := rfl
@[simp] theorem setCond_tagIndex (k : CondKind) (x : CondEntry) : (s.setCond k x).tagIndex = s.tagIndex := rfl
@[simp] theorem setCond_ladder (k : CondKind) (x : CondEntry) : (s.setCond k x).ladder = s.ladder := rfl
@[simp] theorem setCond_deviceTime (k : CondKind) (x : CondEntry) : (s.setCond k x).deviceTime = s.deviceTime := rfl
@[simp] theorem setCond_deadlines (k : CondKind) (x : CondEntry) : (s.setCond k x).deadlines = s.deadlines := rfl
@[simp] theorem setCond_freePages (k : CondKind) (x : CondEntry) : (s.setCond k x).freePages = s.freePages := rfl
@[simp] theorem setCond_txPages (k : CondKind) (x : CondEntry) : (s.setCond k x).txPages = s.txPages := rfl
@[simp] theorem setCond_compPages (k : CondKind) (x : CondEntry) : (s.setCond k x).compPages = s.compPages := rfl
@[simp] theorem setCond_answers (k : CondKind) (x : CondEntry) : (s.setCond k x).answers = s.answers := rfl
@[simp] theorem setCond_brief (k : CondKind) (x : CondEntry) : (s.setCond k x).brief = s.brief := rfl
@[simp] theorem setCond_reports (k : CondKind) (x : CondEntry) : (s.setCond k x).reports = s.reports := rfl
@[simp] theorem setCond_notices (k : CondKind) (x : CondEntry) : (s.setCond k x).notices = s.notices := rfl
@[simp] theorem setCond_runCount (k : CondKind) (x : CondEntry) : (s.setCond k x).runCount = s.runCount := rfl
@[simp] theorem setCond_batches (k : CondKind) (x : CondEntry) : (s.setCond k x).batches = s.batches := rfl
@[simp] theorem setCond_engine (k : CondKind) (x : CondEntry) : (s.setCond k x).engine = s.engine := rfl
@[simp] theorem setCond_pending (k : CondKind) (x : CondEntry) : (s.setCond k x).pending = s.pending := rfl
@[simp] theorem slot_setCond (k : CondKind) (x : CondEntry) (m : SlotNo) : (s.setCond k x).slot m = s.slot m := rfl
@[simp] theorem gate_setCond (k : CondKind) (x : CondEntry) (h : GateNo) : (s.setCond k x).gate h = s.gate h := rfl
@[simp] theorem source_setCond (k : CondKind) (x : CondEntry) (j : SourceNo) : (s.setCond k x).source j = s.source j := rfl
@[simp] theorem domain_setCond (k : CondKind) (x : CondEntry) (e : DomainNo) : (s.setCond k x).domain e = s.domain e := rfl
@[simp] theorem stream_setCond (k : CondKind) (x : CondEntry) (j : StreamIndex) : (s.setCond k x).stream j = s.stream j := rfl
@[simp] theorem deadline_setCond (k : CondKind) (x : CondEntry) (j : Selector) : (s.setCond k x).deadline j = s.deadline j := rfl
@[simp] theorem level_setCond (k : CondKind) (x : CondEntry) (m : Level) : (s.setCond k x).level m = s.level m := rfl
@[simp] theorem tagged_setCond (k : CondKind) (x : CondEntry) (src' : SourceNo) (tag' : Byte) : (s.setCond k x).tagged src' tag' = s.tagged src' tag' := rfl
@[simp] theorem port_setCond (k : CondKind) (x : CondEntry) (p : PortId) : (s.setCond k x).port p = s.port p := by cases p <;> rfl

/-! ### setPort -/

@[simp] theorem setPort_resetAsserted (p : PortId) (x : Port) : (s.setPort p x).resetAsserted = s.resetAsserted := by cases p <;> rfl
@[simp] theorem setPort_straps (p : PortId) (x : Port) : (s.setPort p x).straps = s.straps := by cases p <;> rfl
@[simp] theorem setPort_ownSession (p : PortId) (x : Port) : (s.setPort p x).ownSession = s.ownSession := by cases p <;> rfl
@[simp] theorem setPort_storedSession (p : PortId) (x : Port) : (s.setPort p x).storedSession = s.storedSession := by cases p <;> rfl
@[simp] theorem setPort_sources (p : PortId) (x : Port) : (s.setPort p x).sources = s.sources := by cases p <;> rfl
@[simp] theorem setPort_domains (p : PortId) (x : Port) : (s.setPort p x).domains = s.domains := by cases p <;> rfl
@[simp] theorem setPort_streams (p : PortId) (x : Port) : (s.setPort p x).streams = s.streams := by cases p <;> rfl
@[simp] theorem setPort_reserve (p : PortId) (x : Port) : (s.setPort p x).reserve = s.reserve := by cases p <;> rfl
@[simp] theorem setPort_slotLow (p : PortId) (x : Port) : (s.setPort p x).slotLow = s.slotLow := by cases p <;> rfl
@[simp] theorem setPort_noticeTarget (p : PortId) (x : Port) : (s.setPort p x).noticeTarget = s.noticeTarget := by cases p <;> rfl
@[simp] theorem setPort_clearMode (p : PortId) (x : Port) : (s.setPort p x).clearMode = s.clearMode := by cases p <;> rfl
@[simp] theorem setPort_dispatch (p : PortId) (x : Port) : (s.setPort p x).dispatch = s.dispatch := by cases p <;> rfl
@[simp] theorem setPort_gates (p : PortId) (x : Port) : (s.setPort p x).gates = s.gates := by cases p <;> rfl
@[simp] theorem setPort_slots (p : PortId) (x : Port) : (s.setPort p x).slots = s.slots := by cases p <;> rfl
@[simp] theorem setPort_tagIndex (p : PortId) (x : Port) : (s.setPort p x).tagIndex = s.tagIndex := by cases p <;> rfl
@[simp] theorem setPort_ladder (p : PortId) (x : Port) : (s.setPort p x).ladder = s.ladder := by cases p <;> rfl
@[simp] theorem setPort_deviceTime (p : PortId) (x : Port) : (s.setPort p x).deviceTime = s.deviceTime := by cases p <;> rfl
@[simp] theorem setPort_deadlines (p : PortId) (x : Port) : (s.setPort p x).deadlines = s.deadlines := by cases p <;> rfl
@[simp] theorem setPort_freePages (p : PortId) (x : Port) : (s.setPort p x).freePages = s.freePages := by cases p <;> rfl
@[simp] theorem setPort_txPages (p : PortId) (x : Port) : (s.setPort p x).txPages = s.txPages := by cases p <;> rfl
@[simp] theorem setPort_compPages (p : PortId) (x : Port) : (s.setPort p x).compPages = s.compPages := by cases p <;> rfl
@[simp] theorem setPort_answers (p : PortId) (x : Port) : (s.setPort p x).answers = s.answers := by cases p <;> rfl
@[simp] theorem setPort_brief (p : PortId) (x : Port) : (s.setPort p x).brief = s.brief := by cases p <;> rfl
@[simp] theorem setPort_reports (p : PortId) (x : Port) : (s.setPort p x).reports = s.reports := by cases p <;> rfl
@[simp] theorem setPort_notices (p : PortId) (x : Port) : (s.setPort p x).notices = s.notices := by cases p <;> rfl
@[simp] theorem setPort_runCount (p : PortId) (x : Port) : (s.setPort p x).runCount = s.runCount := by cases p <;> rfl
@[simp] theorem setPort_batches (p : PortId) (x : Port) : (s.setPort p x).batches = s.batches := by cases p <;> rfl
@[simp] theorem setPort_engine (p : PortId) (x : Port) : (s.setPort p x).engine = s.engine := by cases p <;> rfl
@[simp] theorem setPort_conditions (p : PortId) (x : Port) : (s.setPort p x).conditions = s.conditions := by cases p <;> rfl
@[simp] theorem setPort_pending (p : PortId) (x : Port) : (s.setPort p x).pending = s.pending := by cases p <;> rfl
@[simp] theorem setPort_initiator_initPort (x : Port) : (s.setPort .initiator x).initPort = x := rfl
@[simp] theorem setPort_initiator_svcPort (x : Port) : (s.setPort .initiator x).svcPort = s.svcPort := rfl
@[simp] theorem setPort_service_svcPort (x : Port) : (s.setPort .service x).svcPort = x := rfl
@[simp] theorem setPort_service_initPort (x : Port) : (s.setPort .service x).initPort = s.initPort := rfl
@[simp] theorem slot_setPort (p : PortId) (x : Port) (m : SlotNo) : (s.setPort p x).slot m = s.slot m := by cases p <;> rfl
@[simp] theorem gate_setPort (p : PortId) (x : Port) (h : GateNo) : (s.setPort p x).gate h = s.gate h := by cases p <;> rfl
@[simp] theorem source_setPort (p : PortId) (x : Port) (j : SourceNo) : (s.setPort p x).source j = s.source j := by cases p <;> rfl
@[simp] theorem domain_setPort (p : PortId) (x : Port) (e : DomainNo) : (s.setPort p x).domain e = s.domain e := by cases p <;> rfl
@[simp] theorem stream_setPort (p : PortId) (x : Port) (j : StreamIndex) : (s.setPort p x).stream j = s.stream j := by cases p <;> rfl
@[simp] theorem deadline_setPort (p : PortId) (x : Port) (j : Selector) : (s.setPort p x).deadline j = s.deadline j := by cases p <;> rfl
@[simp] theorem level_setPort (p : PortId) (x : Port) (m : Level) : (s.setPort p x).level m = s.level m := by cases p <;> rfl
@[simp] theorem tagged_setPort (p : PortId) (x : Port) (src' : SourceNo) (tag' : Byte) : (s.setPort p x).tagged src' tag' = s.tagged src' tag' := by cases p <;> rfl
@[simp] theorem cond_setPort (p : PortId) (x : Port) (j : CondKind) : (s.setPort p x).cond j = s.cond j := by cases p <;> rfl
@[simp] theorem port_initiator : s.port .initiator = s.initPort := rfl
@[simp] theorem port_service : s.port .service = s.svcPort := rfl
@[simp] theorem port_setPort_same (p : PortId) (x : Port) : (s.setPort p x).port p = x := by cases p <;> rfl
theorem port_setPort (p q : PortId) (x : Port) : (s.setPort p x).port q = if q = p then x else s.port q := by
  cases p <;> cases q <;> rfl

/-! ### Reading what was set -/

theorem slot_setSlot (n m : SlotNo) (x : Slot) : (s.setSlot n x).slot m = if m = n then x else s.slot m := by
  simp [slot, setSlot, Table.get_set, BitVec.toNat_inj]
@[simp] theorem slot_setSlot_same (n : SlotNo) (x : Slot) : (s.setSlot n x).slot n = x := by simp [slot_setSlot]

theorem gate_setGate (g h : GateNo) (x : Gate) : (s.setGate g x).gate h = if h = g then x else s.gate h := by
  simp [gate, setGate, Table.get_set, BitVec.toNat_inj]
@[simp] theorem gate_setGate_same (g : GateNo) (x : Gate) : (s.setGate g x).gate g = x := by simp [gate_setGate]

theorem source_setSource (i j : SourceNo) (x : SourceEntry) :
    (s.setSource i x).source j = if j = i then x else s.source j := by
  simp [source, setSource, Table.get_set, BitVec.toNat_inj]
@[simp] theorem source_setSource_same (i : SourceNo) (x : SourceEntry) : (s.setSource i x).source i = x := by
  simp [source_setSource]

theorem domain_setDomain (d e : DomainNo) (x : DomainEntry) :
    (s.setDomain d x).domain e = if e = d then x else s.domain e := by
  simp [domain, setDomain, Table.get_set, BitVec.toNat_inj]
@[simp] theorem domain_setDomain_same (d : DomainNo) (x : DomainEntry) : (s.setDomain d x).domain d = x := by
  simp [domain_setDomain]

theorem stream_setStream (i j : StreamIndex) (x : StreamEntry) :
    (s.setStream i x).stream j = if j = i then x else s.stream j := by
  simp [stream, setStream, Table.get_set, BitVec.toNat_inj]
@[simp] theorem stream_setStream_same (i : StreamIndex) (x : StreamEntry) : (s.setStream i x).stream i = x := by
  simp [stream_setStream]

theorem deadline_setDeadline (k j : Selector) (d : BitVec 16) :
    (s.setDeadline k d).deadline j = if j = k then d else s.deadline j := by
  simp [deadline, setDeadline, Table.get_set, BitVec.toNat_inj]
@[simp] theorem deadline_setDeadline_same (k : Selector) (d : BitVec 16) : (s.setDeadline k d).deadline k = d := by
  simp [deadline_setDeadline]

theorem level_setLevel (l m : Level) (q : List SlotNo) :
    (s.setLevel l q).level m = if m = l then q else s.level m := by
  simp [level, setLevel, Table.get_set, BitVec.toNat_inj]
@[simp] theorem level_setLevel_same (l : Level) (q : List SlotNo) : (s.setLevel l q).level l = q := by
  simp [level_setLevel]

theorem tagKey_inj {src src' : SourceNo} {tag tag' : Byte} :
    tagKey src tag = tagKey src' tag' ↔ src = src' ∧ tag = tag' := by
  constructor
  · intro h
    simp only [tagKey, BitVec.toNat_append] at h
    rw [← Nat.shiftLeft_add_eq_or_of_lt tag.isLt, ← Nat.shiftLeft_add_eq_or_of_lt tag'.isLt] at h
    simp only [Nat.shiftLeft_eq] at h
    have h1 := tag.isLt
    have h2 := tag'.isLt
    constructor <;> apply BitVec.eq_of_toNat_eq <;> omega
  · rintro ⟨rfl, rfl⟩; rfl

theorem tagged_setTagged (src src' : SourceNo) (tag tag' : Byte) (n : Option SlotNo) :
    (s.setTagged src tag n).tagged src' tag' = if src' = src ∧ tag' = tag then n else s.tagged src' tag' := by
  simp [tagged, setTagged, Table.get_set, tagKey_inj]
@[simp] theorem tagged_setTagged_same (src : SourceNo) (tag : Byte) (n : Option SlotNo) :
    (s.setTagged src tag n).tagged src tag = n := by simp [tagged_setTagged]

theorem number_inj {k j : CondKind} : k.number = j.number ↔ k = j := by cases k <;> cases j <;> decide

theorem cond_setCond (k j : CondKind) (x : CondEntry) : (s.setCond k x).cond j = if j = k then x else s.cond j := by
  simp [cond, setCond, Table.get_set, number_inj]
@[simp] theorem cond_setCond_same (k : CondKind) (x : CondEntry) : (s.setCond k x).cond k = x := by simp [cond_setCond]

end Sys2Proof.Machine.State
end

