-- ==== Sys2Proof/Laws/Frames.lean ====
section
/-! SUPPORT. What the shared operations on conditions, answers and pages leave as it was: one lemma a field and operation, and one a reading and operation. -/

namespace Sys2Proof.Machine

variable (s : State)


/-! ### raise -/

@[simp] theorem raise_resetAsserted (k : CondKind) (x : BitVec 32) : (raise k x s).resetAsserted = s.resetAsserted := rfl
@[simp] theorem raise_straps (k : CondKind) (x : BitVec 32) : (raise k x s).straps = s.straps := rfl
@[simp] theorem raise_ownSession (k : CondKind) (x : BitVec 32) : (raise k x s).ownSession = s.ownSession := rfl
@[simp] theorem raise_storedSession (k : CondKind) (x : BitVec 32) : (raise k x s).storedSession = s.storedSession := rfl
@[simp] theorem raise_initPort (k : CondKind) (x : BitVec 32) : (raise k x s).initPort = s.initPort := rfl
@[simp] theorem raise_svcPort (k : CondKind) (x : BitVec 32) : (raise k x s).svcPort = s.svcPort := rfl
@[simp] theorem raise_sources (k : CondKind) (x : BitVec 32) : (raise k x s).sources = s.sources := rfl
@[simp] theorem raise_domains (k : CondKind) (x : BitVec 32) : (raise k x s).domains = s.domains := rfl
@[simp] theorem raise_streams (k : CondKind) (x : BitVec 32) : (raise k x s).streams = s.streams := rfl
@[simp] theorem raise_reserve (k : CondKind) (x : BitVec 32) : (raise k x s).reserve = s.reserve := rfl
@[simp] theorem raise_slotLow (k : CondKind) (x : BitVec 32) : (raise k x s).slotLow = s.slotLow := rfl
@[simp] theorem raise_noticeTarget (k : CondKind) (x : BitVec 32) : (raise k x s).noticeTarget = s.noticeTarget := rfl
@[simp] theorem raise_clearMode (k : CondKind) (x : BitVec 32) : (raise k x s).clearMode = s.clearMode := rfl
@[simp] theorem raise_dispatch (k : CondKind) (x : BitVec 32) : (raise k x s).dispatch = s.dispatch := rfl
@[simp] theorem raise_gates (k : CondKind) (x : BitVec 32) : (raise k x s).gates = s.gates := rfl
@[simp] theorem raise_slots (k : CondKind) (x : BitVec 32) : (raise k x s).slots = s.slots := rfl
@[simp] theorem raise_tagIndex (k : CondKind) (x : BitVec 32) : (raise k x s).tagIndex = s.tagIndex := rfl
@[simp] theorem raise_ladder (k : CondKind) (x : BitVec 32) : (raise k x s).ladder = s.ladder := rfl
@[simp] theorem raise_deviceTime (k : CondKind) (x : BitVec 32) : (raise k x s).deviceTime = s.deviceTime := rfl
@[simp] theorem raise_deadlines (k : CondKind) (x : BitVec 32) : (raise k x s).deadlines = s.deadlines := rfl
@[simp] theorem raise_freePages (k : CondKind) (x : BitVec 32) : (raise k x s).freePages = s.freePages := rfl
@[simp] theorem raise_txPages (k : CondKind) (x : BitVec 32) : (raise k x s).txPages = s.txPages := rfl
@[simp] theorem raise_compPages (k : CondKind) (x : BitVec 32) : (raise k x s).compPages = s.compPages := rfl
@[simp] theorem raise_answers (k : CondKind) (x : BitVec 32) : (raise k x s).answers = s.answers := rfl
@[simp] theorem raise_brief (k : CondKind) (x : BitVec 32) : (raise k x s).brief = s.brief := rfl
@[simp] theorem raise_reports (k : CondKind) (x : BitVec 32) : (raise k x s).reports = s.reports := rfl
@[simp] theorem raise_runCount (k : CondKind) (x : BitVec 32) : (raise k x s).runCount = s.runCount := rfl
@[simp] theorem raise_batches (k : CondKind) (x : BitVec 32) : (raise k x s).batches = s.batches := rfl
@[simp] theorem raise_engine (k : CondKind) (x : BitVec 32) : (raise k x s).engine = s.engine := rfl
@[simp] theorem raise_pending (k : CondKind) (x : BitVec 32) : (raise k x s).pending = s.pending := rfl
@[simp] theorem slot_raise (k : CondKind) (x : BitVec 32) (m : SlotNo) : (raise k x s).slot m = s.slot m := rfl
@[simp] theorem gate_raise (k : CondKind) (x : BitVec 32) (h : GateNo) : (raise k x s).gate h = s.gate h := rfl
@[simp] theorem source_raise (k : CondKind) (x : BitVec 32) (j : SourceNo) : (raise k x s).source j = s.source j := rfl
@[simp] theorem domain_raise (k : CondKind) (x : BitVec 32) (e : DomainNo) : (raise k x s).domain e = s.domain e := rfl
@[simp] theorem stream_raise (k : CondKind) (x : BitVec 32) (j : StreamIndex) : (raise k x s).stream j = s.stream j := rfl
@[simp] theorem deadline_raise (k : CondKind) (x : BitVec 32) (j : Selector) : (raise k x s).deadline j = s.deadline j := rfl
@[simp] theorem level_raise (k : CondKind) (x : BitVec 32) (m : Level) : (raise k x s).level m = s.level m := rfl
@[simp] theorem tagged_raise (k : CondKind) (x : BitVec 32) (src' : SourceNo) (tag' : Byte) : (raise k x s).tagged src' tag' = s.tagged src' tag' := rfl
@[simp] theorem port_raise (k : CondKind) (x : BitVec 32) (q : PortId) : (raise k x s).port q = s.port q := by cases q <;> rfl

/-! ### clearCond -/

@[simp] theorem clearCond_resetAsserted (k : CondKind) : (clearCond k s).resetAsserted = s.resetAsserted := rfl
@[simp] theorem clearCond_straps (k : CondKind) : (clearCond k s).straps = s.straps := rfl
@[simp] theorem clearCond_ownSession (k : CondKind) : (clearCond k s).ownSession = s.ownSession := rfl
@[simp] theorem clearCond_storedSession (k : CondKind) : (clearCond k s).storedSession = s.storedSession := rfl
@[simp] theorem clearCond_initPort (k : CondKind) : (clearCond k s).initPort = s.initPort := rfl
@[simp] theorem clearCond_svcPort (k : CondKind) : (clearCond k s).svcPort = s.svcPort := rfl
@[simp] theorem clearCond_sources (k : CondKind) : (clearCond k s).sources = s.sources := rfl
@[simp] theorem clearCond_domains (k : CondKind) : (clearCond k s).domains = s.domains := rfl
@[simp] theorem clearCond_streams (k : CondKind) : (clearCond k s).streams = s.streams := rfl
@[simp] theorem clearCond_reserve (k : CondKind) : (clearCond k s).reserve = s.reserve := rfl
@[simp] theorem clearCond_slotLow (k : CondKind) : (clearCond k s).slotLow = s.slotLow := rfl
@[simp] theorem clearCond_noticeTarget (k : CondKind) : (clearCond k s).noticeTarget = s.noticeTarget := rfl
@[simp] theorem clearCond_clearMode (k : CondKind) : (clearCond k s).clearMode = s.clearMode := rfl
@[simp] theorem clearCond_dispatch (k : CondKind) : (clearCond k s).dispatch = s.dispatch := rfl
@[simp] theorem clearCond_gates (k : CondKind) : (clearCond k s).gates = s.gates := rfl
@[simp] theorem clearCond_slots (k : CondKind) : (clearCond k s).slots = s.slots := rfl
@[simp] theorem clearCond_tagIndex (k : CondKind) : (clearCond k s).tagIndex = s.tagIndex := rfl
@[simp] theorem clearCond_ladder (k : CondKind) : (clearCond k s).ladder = s.ladder := rfl
@[simp] theorem clearCond_deviceTime (k : CondKind) : (clearCond k s).deviceTime = s.deviceTime := rfl
@[simp] theorem clearCond_deadlines (k : CondKind) : (clearCond k s).deadlines = s.deadlines := rfl
@[simp] theorem clearCond_freePages (k : CondKind) : (clearCond k s).freePages = s.freePages := rfl
@[simp] theorem clearCond_txPages (k : CondKind) : (clearCond k s).txPages = s.txPages := rfl
@[simp] theorem clearCond_compPages (k : CondKind) : (clearCond k s).compPages = s.compPages := rfl
@[simp] theorem clearCond_answers (k : CondKind) : (clearCond k s).answers = s.answers := rfl
@[simp] theorem clearCond_brief (k : CondKind) : (clearCond k s).brief = s.brief := rfl
@[simp] theorem clearCond_reports (k : CondKind) : (clearCond k s).reports = s.reports := rfl
@[simp] theorem clearCond_runCount (k : CondKind) : (clearCond k s).runCount = s.runCount := rfl
@[simp] theorem clearCond_batches (k : CondKind) : (clearCond k s).batches = s.batches := rfl
@[simp] theorem clearCond_engine (k : CondKind) : (clearCond k s).engine = s.engine := rfl
@[simp] theorem clearCond_pending (k : CondKind) : (clearCond k s).pending = s.pending := rfl
@[simp] theorem slot_clearCond (k : CondKind) (m : SlotNo) : (clearCond k s).slot m = s.slot m := rfl
@[simp] theorem gate_clearCond (k : CondKind) (h : GateNo) : (clearCond k s).gate h = s.gate h := rfl
@[simp] theorem source_clearCond (k : CondKind) (j : SourceNo) : (clearCond k s).source j = s.source j := rfl
@[simp] theorem domain_clearCond (k : CondKind) (e : DomainNo) : (clearCond k s).domain e = s.domain e := rfl
@[simp] theorem stream_clearCond (k : CondKind) (j : StreamIndex) : (clearCond k s).stream j = s.stream j := rfl
@[simp] theorem deadline_clearCond (k : CondKind) (j : Selector) : (clearCond k s).deadline j = s.deadline j := rfl
@[simp] theorem level_clearCond (k : CondKind) (m : Level) : (clearCond k s).level m = s.level m := rfl
@[simp] theorem tagged_clearCond (k : CondKind) (src' : SourceNo) (tag' : Byte) : (clearCond k s).tagged src' tag' = s.tagged src' tag' := rfl
@[simp] theorem port_clearCond (k : CondKind) (q : PortId) : (clearCond k s).port q = s.port q := by cases q <;> rfl

/-! ### owe -/

@[simp] theorem owe_resetAsserted (st : SlotState) (a : Answer) (n : SlotNo) : (owe st a n s).resetAsserted = s.resetAsserted := rfl
@[simp] theorem owe_straps (st : SlotState) (a : Answer) (n : SlotNo) : (owe st a n s).straps = s.straps := rfl
@[simp] theorem owe_ownSession (st : SlotState) (a : Answer) (n : SlotNo) : (owe st a n s).ownSession = s.ownSession := rfl
@[simp] theorem owe_storedSession (st : SlotState) (a : Answer) (n : SlotNo) : (owe st a n s).storedSession = s.storedSession := rfl
@[simp] theorem owe_initPort (st : SlotState) (a : Answer) (n : SlotNo) : (owe st a n s).initPort = s.initPort := rfl
@[simp] theorem owe_svcPort (st : SlotState) (a : Answer) (n : SlotNo) : (owe st a n s).svcPort = s.svcPort := rfl
@[simp] theorem owe_sources (st : SlotState) (a : Answer) (n : SlotNo) : (owe st a n s).sources = s.sources := rfl
@[simp] theorem owe_domains (st : SlotState) (a : Answer) (n : SlotNo) : (owe st a n s).domains = s.domains := rfl
@[simp] theorem owe_streams (st : SlotState) (a : Answer) (n : SlotNo) : (owe st a n s).streams = s.streams := rfl
@[simp] theorem owe_reserve (st : SlotState) (a : Answer) (n : SlotNo) : (owe st a n s).reserve = s.reserve := rfl
@[simp] theorem owe_slotLow (st : SlotState) (a : Answer) (n : SlotNo) : (owe st a n s).slotLow = s.slotLow := rfl
@[simp] theorem owe_noticeTarget (st : SlotState) (a : Answer) (n : SlotNo) : (owe st a n s).noticeTarget = s.noticeTarget := rfl
@[simp] theorem owe_clearMode (st : SlotState) (a : Answer) (n : SlotNo) : (owe st a n s).clearMode = s.clearMode := rfl
@[simp] theorem owe_dispatch (st : SlotState) (a : Answer) (n : SlotNo) : (owe st a n s).dispatch = s.dispatch := rfl
@[simp] theorem owe_gates (st : SlotState) (a : Answer) (n : SlotNo) : (owe st a n s).gates = s.gates := rfl
@[simp] theorem owe_tagIndex (st : SlotState) (a : Answer) (n : SlotNo) : (owe st a n s).tagIndex = s.tagIndex := rfl
@[simp] theorem owe_ladder (st : SlotState) (a : Answer) (n : SlotNo) : (owe st a n s).ladder = s.ladder := rfl
@[simp] theorem owe_deviceTime (st : SlotState) (a : Answer) (n : SlotNo) : (owe st a n s).deviceTime = s.deviceTime := rfl
@[simp] theorem owe_deadlines (st : SlotState) (a : Answer) (n : SlotNo) : (owe st a n s).deadlines = s.deadlines := rfl
@[simp] theorem owe_freePages (st : SlotState) (a : Answer) (n : SlotNo) : (owe st a n s).freePages = s.freePages := rfl
@[simp] theorem owe_txPages (st : SlotState) (a : Answer) (n : SlotNo) : (owe st a n s).txPages = s.txPages := rfl
@[simp] theorem owe_compPages (st : SlotState) (a : Answer) (n : SlotNo) : (owe st a n s).compPages = s.compPages := rfl
@[simp] theorem owe_brief (st : SlotState) (a : Answer) (n : SlotNo) : (owe st a n s).brief = s.brief := rfl
@[simp] theorem owe_reports (st : SlotState) (a : Answer) (n : SlotNo) : (owe st a n s).reports = s.reports := rfl
@[simp] theorem owe_notices (st : SlotState) (a : Answer) (n : SlotNo) : (owe st a n s).notices = s.notices := rfl
@[simp] theorem owe_runCount (st : SlotState) (a : Answer) (n : SlotNo) : (owe st a n s).runCount = s.runCount := rfl
@[simp] theorem owe_batches (st : SlotState) (a : Answer) (n : SlotNo) : (owe st a n s).batches = s.batches := rfl
@[simp] theorem owe_engine (st : SlotState) (a : Answer) (n : SlotNo) : (owe st a n s).engine = s.engine := rfl
@[simp] theorem owe_conditions (st : SlotState) (a : Answer) (n : SlotNo) : (owe st a n s).conditions = s.conditions := rfl
@[simp] theorem owe_pending (st : SlotState) (a : Answer) (n : SlotNo) : (owe st a n s).pending = s.pending := rfl
@[simp] theorem gate_owe (st : SlotState) (a : Answer) (n : SlotNo) (h : GateNo) : (owe st a n s).gate h = s.gate h := rfl
@[simp] theorem source_owe (st : SlotState) (a : Answer) (n : SlotNo) (j : SourceNo) : (owe st a n s).source j = s.source j := rfl
@[simp] theorem domain_owe (st : SlotState) (a : Answer) (n : SlotNo) (e : DomainNo) : (owe st a n s).domain e = s.domain e := rfl
@[simp] theorem stream_owe (st : SlotState) (a : Answer) (n : SlotNo) (j : StreamIndex) : (owe st a n s).stream j = s.stream j := rfl
@[simp] theorem deadline_owe (st : SlotState) (a : Answer) (n : SlotNo) (j : Selector) : (owe st a n s).deadline j = s.deadline j := rfl
@[simp] theorem level_owe (st : SlotState) (a : Answer) (n : SlotNo) (m : Level) : (owe st a n s).level m = s.level m := rfl
@[simp] theorem tagged_owe (st : SlotState) (a : Answer) (n : SlotNo) (src' : SourceNo) (tag' : Byte) : (owe st a n s).tagged src' tag' = s.tagged src' tag' := rfl
@[simp] theorem cond_owe (st : SlotState) (a : Answer) (n : SlotNo) (j : CondKind) : (owe st a n s).cond j = s.cond j := rfl
@[simp] theorem port_owe (st : SlotState) (a : Answer) (n : SlotNo) (q : PortId) : (owe st a n s).port q = s.port q := by cases q <;> rfl

/-! ### leaveAnswers -/

@[simp] theorem leaveAnswers_resetAsserted (n : SlotNo) : (leaveAnswers n s).resetAsserted = s.resetAsserted := rfl
@[simp] theorem leaveAnswers_straps (n : SlotNo) : (leaveAnswers n s).straps = s.straps := rfl
@[simp] theorem leaveAnswers_ownSession (n : SlotNo) : (leaveAnswers n s).ownSession = s.ownSession := rfl
@[simp] theorem leaveAnswers_storedSession (n : SlotNo) : (leaveAnswers n s).storedSession = s.storedSession := rfl
@[simp] theorem leaveAnswers_initPort (n : SlotNo) : (leaveAnswers n s).initPort = s.initPort := rfl
@[simp] theorem leaveAnswers_svcPort (n : SlotNo) : (leaveAnswers n s).svcPort = s.svcPort := rfl
@[simp] theorem leaveAnswers_sources (n : SlotNo) : (leaveAnswers n s).sources = s.sources := rfl
@[simp] theorem leaveAnswers_domains (n : SlotNo) : (leaveAnswers n s).domains = s.domains := rfl
@[simp] theorem leaveAnswers_streams (n : SlotNo) : (leaveAnswers n s).streams = s.streams := rfl
@[simp] theorem leaveAnswers_reserve (n : SlotNo) : (leaveAnswers n s).reserve = s.reserve := rfl
@[simp] theorem leaveAnswers_slotLow (n : SlotNo) : (leaveAnswers n s).slotLow = s.slotLow := rfl
@[simp] theorem leaveAnswers_noticeTarget (n : SlotNo) : (leaveAnswers n s).noticeTarget = s.noticeTarget := rfl
@[simp] theorem leaveAnswers_clearMode (n : SlotNo) : (leaveAnswers n s).clearMode = s.clearMode := rfl
@[simp] theorem leaveAnswers_dispatch (n : SlotNo) : (leaveAnswers n s).dispatch = s.dispatch := rfl
@[simp] theorem leaveAnswers_gates (n : SlotNo) : (leaveAnswers n s).gates = s.gates := rfl
@[simp] theorem leaveAnswers_slots (n : SlotNo) : (leaveAnswers n s).slots = s.slots := rfl
@[simp] theorem leaveAnswers_tagIndex (n : SlotNo) : (leaveAnswers n s).tagIndex = s.tagIndex := rfl
@[simp] theorem leaveAnswers_ladder (n : SlotNo) : (leaveAnswers n s).ladder = s.ladder := rfl
@[simp] theorem leaveAnswers_deviceTime (n : SlotNo) : (leaveAnswers n s).deviceTime = s.deviceTime := rfl
@[simp] theorem leaveAnswers_deadlines (n : SlotNo) : (leaveAnswers n s).deadlines = s.deadlines := rfl
@[simp] theorem leaveAnswers_freePages (n : SlotNo) : (leaveAnswers n s).freePages = s.freePages := rfl
@[simp] theorem leaveAnswers_txPages (n : SlotNo) : (leaveAnswers n s).txPages = s.txPages := rfl
@[simp] theorem leaveAnswers_compPages (n : SlotNo) : (leaveAnswers n s).compPages = s.compPages := rfl
@[simp] theorem leaveAnswers_brief (n : SlotNo) : (leaveAnswers n s).brief = s.brief := rfl
@[simp] theorem leaveAnswers_reports (n : SlotNo) : (leaveAnswers n s).reports = s.reports := rfl
@[simp] theorem leaveAnswers_notices (n : SlotNo) : (leaveAnswers n s).notices = s.notices := rfl
@[simp] theorem leaveAnswers_runCount (n : SlotNo) : (leaveAnswers n s).runCount = s.runCount := rfl
@[simp] theorem leaveAnswers_batches (n : SlotNo) : (leaveAnswers n s).batches = s.batches := rfl
@[simp] theorem leaveAnswers_engine (n : SlotNo) : (leaveAnswers n s).engine = s.engine := rfl
@[simp] theorem leaveAnswers_conditions (n : SlotNo) : (leaveAnswers n s).conditions = s.conditions := rfl
@[simp] theorem leaveAnswers_pending (n : SlotNo) : (leaveAnswers n s).pending = s.pending := rfl
@[simp] theorem slot_leaveAnswers (n : SlotNo) (m : SlotNo) : (leaveAnswers n s).slot m = s.slot m := rfl
@[simp] theorem gate_leaveAnswers (n : SlotNo) (h : GateNo) : (leaveAnswers n s).gate h = s.gate h := rfl
@[simp] theorem source_leaveAnswers (n : SlotNo) (j : SourceNo) : (leaveAnswers n s).source j = s.source j := rfl
@[simp] theorem domain_leaveAnswers (n : SlotNo) (e : DomainNo) : (leaveAnswers n s).domain e = s.domain e := rfl
@[simp] theorem stream_leaveAnswers (n : SlotNo) (j : StreamIndex) : (leaveAnswers n s).stream j = s.stream j := rfl
@[simp] theorem deadline_leaveAnswers (n : SlotNo) (j : Selector) : (leaveAnswers n s).deadline j = s.deadline j := rfl
@[simp] theorem level_leaveAnswers (n : SlotNo) (m : Level) : (leaveAnswers n s).level m = s.level m := rfl
@[simp] theorem tagged_leaveAnswers (n : SlotNo) (src' : SourceNo) (tag' : Byte) : (leaveAnswers n s).tagged src' tag' = s.tagged src' tag' := rfl
@[simp] theorem cond_leaveAnswers (n : SlotNo) (j : CondKind) : (leaveAnswers n s).cond j = s.cond j := rfl
@[simp] theorem port_leaveAnswers (n : SlotNo) (q : PortId) : (leaveAnswers n s).port q = s.port q := by cases q <;> rfl

/-! ### claimTxPages -/

@[simp] theorem claimTxPages_resetAsserted (p : Nat) : (claimTxPages p s).resetAsserted = s.resetAsserted := rfl
@[simp] theorem claimTxPages_straps (p : Nat) : (claimTxPages p s).straps = s.straps := rfl
@[simp] theorem claimTxPages_ownSession (p : Nat) : (claimTxPages p s).ownSession = s.ownSession := rfl
@[simp] theorem claimTxPages_storedSession (p : Nat) : (claimTxPages p s).storedSession = s.storedSession := rfl
@[simp] theorem claimTxPages_initPort (p : Nat) : (claimTxPages p s).initPort = s.initPort := rfl
@[simp] theorem claimTxPages_svcPort (p : Nat) : (claimTxPages p s).svcPort = s.svcPort := rfl
@[simp] theorem claimTxPages_sources (p : Nat) : (claimTxPages p s).sources = s.sources := rfl
@[simp] theorem claimTxPages_domains (p : Nat) : (claimTxPages p s).domains = s.domains := rfl
@[simp] theorem claimTxPages_streams (p : Nat) : (claimTxPages p s).streams = s.streams := rfl
@[simp] theorem claimTxPages_reserve (p : Nat) : (claimTxPages p s).reserve = s.reserve := rfl
@[simp] theorem claimTxPages_slotLow (p : Nat) : (claimTxPages p s).slotLow = s.slotLow := rfl
@[simp] theorem claimTxPages_noticeTarget (p : Nat) : (claimTxPages p s).noticeTarget = s.noticeTarget := rfl
@[simp] theorem claimTxPages_clearMode (p : Nat) : (claimTxPages p s).clearMode = s.clearMode := rfl
@[simp] theorem claimTxPages_dispatch (p : Nat) : (claimTxPages p s).dispatch = s.dispatch := rfl
@[simp] theorem claimTxPages_gates (p : Nat) : (claimTxPages p s).gates = s.gates := rfl
@[simp] theorem claimTxPages_slots (p : Nat) : (claimTxPages p s).slots = s.slots := rfl
@[simp] theorem claimTxPages_tagIndex (p : Nat) : (claimTxPages p s).tagIndex = s.tagIndex := rfl
@[simp] theorem claimTxPages_ladder (p : Nat) : (claimTxPages p s).ladder = s.ladder := rfl
@[simp] theorem claimTxPages_deviceTime (p : Nat) : (claimTxPages p s).deviceTime = s.deviceTime := rfl
@[simp] theorem claimTxPages_deadlines (p : Nat) : (claimTxPages p s).deadlines = s.deadlines := rfl
@[simp] theorem claimTxPages_compPages (p : Nat) : (claimTxPages p s).compPages = s.compPages := rfl
@[simp] theorem claimTxPages_answers (p : Nat) : (claimTxPages p s).answers = s.answers := rfl
@[simp] theorem claimTxPages_brief (p : Nat) : (claimTxPages p s).brief = s.brief := rfl
@[simp] theorem claimTxPages_reports (p : Nat) : (claimTxPages p s).reports = s.reports := rfl
@[simp] theorem claimTxPages_notices (p : Nat) : (claimTxPages p s).notices = s.notices := rfl
@[simp] theorem claimTxPages_runCount (p : Nat) : (claimTxPages p s).runCount = s.runCount := rfl
@[simp] theorem claimTxPages_batches (p : Nat) : (claimTxPages p s).batches = s.batches := rfl
@[simp] theorem claimTxPages_engine (p : Nat) : (claimTxPages p s).engine = s.engine := rfl
@[simp] theorem claimTxPages_conditions (p : Nat) : (claimTxPages p s).conditions = s.conditions := rfl
@[simp] theorem claimTxPages_pending (p : Nat) : (claimTxPages p s).pending = s.pending := rfl
@[simp] theorem slot_claimTxPages (p : Nat) (m : SlotNo) : (claimTxPages p s).slot m = s.slot m := rfl
@[simp] theorem gate_claimTxPages (p : Nat) (h : GateNo) : (claimTxPages p s).gate h = s.gate h := rfl
@[simp] theorem source_claimTxPages (p : Nat) (j : SourceNo) : (claimTxPages p s).source j = s.source j := rfl
@[simp] theorem domain_claimTxPages (p : Nat) (e : DomainNo) : (claimTxPages p s).domain e = s.domain e := rfl
@[simp] theorem stream_claimTxPages (p : Nat) (j : StreamIndex) : (claimTxPages p s).stream j = s.stream j := rfl
@[simp] theorem deadline_claimTxPages (p : Nat) (j : Selector) : (claimTxPages p s).deadline j = s.deadline j := rfl
@[simp] theorem level_claimTxPages (p : Nat) (m : Level) : (claimTxPages p s).level m = s.level m := rfl
@[simp] theorem tagged_claimTxPages (p : Nat) (src' : SourceNo) (tag' : Byte) : (claimTxPages p s).tagged src' tag' = s.tagged src' tag' := rfl
@[simp] theorem cond_claimTxPages (p : Nat) (j : CondKind) : (claimTxPages p s).cond j = s.cond j := rfl
@[simp] theorem port_claimTxPages (p : Nat) (q : PortId) : (claimTxPages p s).port q = s.port q := by cases q <;> rfl

/-! ### claimCompPages -/

@[simp] theorem claimCompPages_resetAsserted (p : Nat) : (claimCompPages p s).resetAsserted = s.resetAsserted := rfl
@[simp] theorem claimCompPages_straps (p : Nat) : (claimCompPages p s).straps = s.straps := rfl
@[simp] theorem claimCompPages_ownSession (p : Nat) : (claimCompPages p s).ownSession = s.ownSession := rfl
@[simp] theorem claimCompPages_storedSession (p : Nat) : (claimCompPages p s).storedSession = s.storedSession := rfl
@[simp] theorem claimCompPages_initPort (p : Nat) : (claimCompPages p s).initPort = s.initPort := rfl
@[simp] theorem claimCompPages_svcPort (p : Nat) : (claimCompPages p s).svcPort = s.svcPort := rfl
@[simp] theorem claimCompPages_sources (p : Nat) : (claimCompPages p s).sources = s.sources := rfl
@[simp] theorem claimCompPages_domains (p : Nat) : (claimCompPages p s).domains = s.domains := rfl
@[simp] theorem claimCompPages_streams (p : Nat) : (claimCompPages p s).streams = s.streams := rfl
@[simp] theorem claimCompPages_reserve (p : Nat) : (claimCompPages p s).reserve = s.reserve := rfl
@[simp] theorem claimCompPages_slotLow (p : Nat) : (claimCompPages p s).slotLow = s.slotLow := rfl
@[simp] theorem claimCompPages_noticeTarget (p : Nat) : (claimCompPages p s).noticeTarget = s.noticeTarget := rfl
@[simp] theorem claimCompPages_clearMode (p : Nat) : (claimCompPages p s).clearMode = s.clearMode := rfl
@[simp] theorem claimCompPages_dispatch (p : Nat) : (claimCompPages p s).dispatch = s.dispatch := rfl
@[simp] theorem claimCompPages_gates (p : Nat) : (claimCompPages p s).gates = s.gates := rfl
@[simp] theorem claimCompPages_slots (p : Nat) : (claimCompPages p s).slots = s.slots := rfl
@[simp] theorem claimCompPages_tagIndex (p : Nat) : (claimCompPages p s).tagIndex = s.tagIndex := rfl
@[simp] theorem claimCompPages_ladder (p : Nat) : (claimCompPages p s).ladder = s.ladder := rfl
@[simp] theorem claimCompPages_deviceTime (p : Nat) : (claimCompPages p s).deviceTime = s.deviceTime := rfl
@[simp] theorem claimCompPages_deadlines (p : Nat) : (claimCompPages p s).deadlines = s.deadlines := rfl
@[simp] theorem claimCompPages_txPages (p : Nat) : (claimCompPages p s).txPages = s.txPages := rfl
@[simp] theorem claimCompPages_answers (p : Nat) : (claimCompPages p s).answers = s.answers := rfl
@[simp] theorem claimCompPages_brief (p : Nat) : (claimCompPages p s).brief = s.brief := rfl
@[simp] theorem claimCompPages_reports (p : Nat) : (claimCompPages p s).reports = s.reports := rfl
@[simp] theorem claimCompPages_notices (p : Nat) : (claimCompPages p s).notices = s.notices := rfl
@[simp] theorem claimCompPages_runCount (p : Nat) : (claimCompPages p s).runCount = s.runCount := rfl
@[simp] theorem claimCompPages_batches (p : Nat) : (claimCompPages p s).batches = s.batches := rfl
@[simp] theorem claimCompPages_engine (p : Nat) : (claimCompPages p s).engine = s.engine := rfl
@[simp] theorem claimCompPages_conditions (p : Nat) : (claimCompPages p s).conditions = s.conditions := rfl
@[simp] theorem claimCompPages_pending (p : Nat) : (claimCompPages p s).pending = s.pending := rfl
@[simp] theorem slot_claimCompPages (p : Nat) (m : SlotNo) : (claimCompPages p s).slot m = s.slot m := rfl
@[simp] theorem gate_claimCompPages (p : Nat) (h : GateNo) : (claimCompPages p s).gate h = s.gate h := rfl
@[simp] theorem source_claimCompPages (p : Nat) (j : SourceNo) : (claimCompPages p s).source j = s.source j := rfl
@[simp] theorem domain_claimCompPages (p : Nat) (e : DomainNo) : (claimCompPages p s).domain e = s.domain e := rfl
@[simp] theorem stream_claimCompPages (p : Nat) (j : StreamIndex) : (claimCompPages p s).stream j = s.stream j := rfl
@[simp] theorem deadline_claimCompPages (p : Nat) (j : Selector) : (claimCompPages p s).deadline j = s.deadline j := rfl
@[simp] theorem level_claimCompPages (p : Nat) (m : Level) : (claimCompPages p s).level m = s.level m := rfl
@[simp] theorem tagged_claimCompPages (p : Nat) (src' : SourceNo) (tag' : Byte) : (claimCompPages p s).tagged src' tag' = s.tagged src' tag' := rfl
@[simp] theorem cond_claimCompPages (p : Nat) (j : CondKind) : (claimCompPages p s).cond j = s.cond j := rfl
@[simp] theorem port_claimCompPages (p : Nat) (q : PortId) : (claimCompPages p s).port q = s.port q := by cases q <;> rfl

/-! ### freeTxPages -/

@[simp] theorem freeTxPages_resetAsserted (p : Nat) : (freeTxPages p s).resetAsserted = s.resetAsserted := rfl
@[simp] theorem freeTxPages_straps (p : Nat) : (freeTxPages p s).straps = s.straps := rfl
@[simp] theorem freeTxPages_ownSession (p : Nat) : (freeTxPages p s).ownSession = s.ownSession := rfl
@[simp] theorem freeTxPages_storedSession (p : Nat) : (freeTxPages p s).storedSession = s.storedSession := rfl
@[simp] theorem freeTxPages_initPort (p : Nat) : (freeTxPages p s).initPort = s.initPort := rfl
@[simp] theorem freeTxPages_svcPort (p : Nat) : (freeTxPages p s).svcPort = s.svcPort := rfl
@[simp] theorem freeTxPages_sources (p : Nat) : (freeTxPages p s).sources = s.sources := rfl
@[simp] theorem freeTxPages_domains (p : Nat) : (freeTxPages p s).domains = s.domains := rfl
@[simp] theorem freeTxPages_streams (p : Nat) : (freeTxPages p s).streams = s.streams := rfl
@[simp] theorem freeTxPages_reserve (p : Nat) : (freeTxPages p s).reserve = s.reserve := rfl
@[simp] theorem freeTxPages_slotLow (p : Nat) : (freeTxPages p s).slotLow = s.slotLow := rfl
@[simp] theorem freeTxPages_noticeTarget (p : Nat) : (freeTxPages p s).noticeTarget = s.noticeTarget := rfl
@[simp] theorem freeTxPages_clearMode (p : Nat) : (freeTxPages p s).clearMode = s.clearMode := rfl
@[simp] theorem freeTxPages_dispatch (p : Nat) : (freeTxPages p s).dispatch = s.dispatch := rfl
@[simp] theorem freeTxPages_gates (p : Nat) : (freeTxPages p s).gates = s.gates := rfl
@[simp] theorem freeTxPages_slots (p : Nat) : (freeTxPages p s).slots = s.slots := rfl
@[simp] theorem freeTxPages_tagIndex (p : Nat) : (freeTxPages p s).tagIndex = s.tagIndex := rfl
@[simp] theorem freeTxPages_ladder (p : Nat) : (freeTxPages p s).ladder = s.ladder := rfl
@[simp] theorem freeTxPages_deviceTime (p : Nat) : (freeTxPages p s).deviceTime = s.deviceTime := rfl
@[simp] theorem freeTxPages_deadlines (p : Nat) : (freeTxPages p s).deadlines = s.deadlines := rfl
@[simp] theorem freeTxPages_compPages (p : Nat) : (freeTxPages p s).compPages = s.compPages := rfl
@[simp] theorem freeTxPages_answers (p : Nat) : (freeTxPages p s).answers = s.answers := rfl
@[simp] theorem freeTxPages_brief (p : Nat) : (freeTxPages p s).brief = s.brief := rfl
@[simp] theorem freeTxPages_reports (p : Nat) : (freeTxPages p s).reports = s.reports := rfl
@[simp] theorem freeTxPages_notices (p : Nat) : (freeTxPages p s).notices = s.notices := rfl
@[simp] theorem freeTxPages_runCount (p : Nat) : (freeTxPages p s).runCount = s.runCount := rfl
@[simp] theorem freeTxPages_batches (p : Nat) : (freeTxPages p s).batches = s.batches := rfl
@[simp] theorem freeTxPages_engine (p : Nat) : (freeTxPages p s).engine = s.engine := rfl
@[simp] theorem freeTxPages_conditions (p : Nat) : (freeTxPages p s).conditions = s.conditions := rfl
@[simp] theorem freeTxPages_pending (p : Nat) : (freeTxPages p s).pending = s.pending := rfl
@[simp] theorem slot_freeTxPages (p : Nat) (m : SlotNo) : (freeTxPages p s).slot m = s.slot m := rfl
@[simp] theorem gate_freeTxPages (p : Nat) (h : GateNo) : (freeTxPages p s).gate h = s.gate h := rfl
@[simp] theorem source_freeTxPages (p : Nat) (j : SourceNo) : (freeTxPages p s).source j = s.source j := rfl
@[simp] theorem domain_freeTxPages (p : Nat) (e : DomainNo) : (freeTxPages p s).domain e = s.domain e := rfl
@[simp] theorem stream_freeTxPages (p : Nat) (j : StreamIndex) : (freeTxPages p s).stream j = s.stream j := rfl
@[simp] theorem deadline_freeTxPages (p : Nat) (j : Selector) : (freeTxPages p s).deadline j = s.deadline j := rfl
@[simp] theorem level_freeTxPages (p : Nat) (m : Level) : (freeTxPages p s).level m = s.level m := rfl
@[simp] theorem tagged_freeTxPages (p : Nat) (src' : SourceNo) (tag' : Byte) : (freeTxPages p s).tagged src' tag' = s.tagged src' tag' := rfl
@[simp] theorem cond_freeTxPages (p : Nat) (j : CondKind) : (freeTxPages p s).cond j = s.cond j := rfl
@[simp] theorem port_freeTxPages (p : Nat) (q : PortId) : (freeTxPages p s).port q = s.port q := by cases q <;> rfl

/-! ### freeCompPages -/

@[simp] theorem freeCompPages_resetAsserted (p : Nat) : (freeCompPages p s).resetAsserted = s.resetAsserted := rfl
@[simp] theorem freeCompPages_straps (p : Nat) : (freeCompPages p s).straps = s.straps := rfl
@[simp] theorem freeCompPages_ownSession (p : Nat) : (freeCompPages p s).ownSession = s.ownSession := rfl
@[simp] theorem freeCompPages_storedSession (p : Nat) : (freeCompPages p s).storedSession = s.storedSession := rfl
@[simp] theorem freeCompPages_initPort (p : Nat) : (freeCompPages p s).initPort = s.initPort := rfl
@[simp] theorem freeCompPages_svcPort (p : Nat) : (freeCompPages p s).svcPort = s.svcPort := rfl
@[simp] theorem freeCompPages_sources (p : Nat) : (freeCompPages p s).sources = s.sources := rfl
@[simp] theorem freeCompPages_domains (p : Nat) : (freeCompPages p s).domains = s.domains := rfl
@[simp] theorem freeCompPages_streams (p : Nat) : (freeCompPages p s).streams = s.streams := rfl
@[simp] theorem freeCompPages_reserve (p : Nat) : (freeCompPages p s).reserve = s.reserve := rfl
@[simp] theorem freeCompPages_slotLow (p : Nat) : (freeCompPages p s).slotLow = s.slotLow := rfl
@[simp] theorem freeCompPages_noticeTarget (p : Nat) : (freeCompPages p s).noticeTarget = s.noticeTarget := rfl
@[simp] theorem freeCompPages_clearMode (p : Nat) : (freeCompPages p s).clearMode = s.clearMode := rfl
@[simp] theorem freeCompPages_dispatch (p : Nat) : (freeCompPages p s).dispatch = s.dispatch := rfl
@[simp] theorem freeCompPages_gates (p : Nat) : (freeCompPages p s).gates = s.gates := rfl
@[simp] theorem freeCompPages_slots (p : Nat) : (freeCompPages p s).slots = s.slots := rfl
@[simp] theorem freeCompPages_tagIndex (p : Nat) : (freeCompPages p s).tagIndex = s.tagIndex := rfl
@[simp] theorem freeCompPages_ladder (p : Nat) : (freeCompPages p s).ladder = s.ladder := rfl
@[simp] theorem freeCompPages_deviceTime (p : Nat) : (freeCompPages p s).deviceTime = s.deviceTime := rfl
@[simp] theorem freeCompPages_deadlines (p : Nat) : (freeCompPages p s).deadlines = s.deadlines := rfl
@[simp] theorem freeCompPages_txPages (p : Nat) : (freeCompPages p s).txPages = s.txPages := rfl
@[simp] theorem freeCompPages_answers (p : Nat) : (freeCompPages p s).answers = s.answers := rfl
@[simp] theorem freeCompPages_brief (p : Nat) : (freeCompPages p s).brief = s.brief := rfl
@[simp] theorem freeCompPages_reports (p : Nat) : (freeCompPages p s).reports = s.reports := rfl
@[simp] theorem freeCompPages_notices (p : Nat) : (freeCompPages p s).notices = s.notices := rfl
@[simp] theorem freeCompPages_runCount (p : Nat) : (freeCompPages p s).runCount = s.runCount := rfl
@[simp] theorem freeCompPages_batches (p : Nat) : (freeCompPages p s).batches = s.batches := rfl
@[simp] theorem freeCompPages_engine (p : Nat) : (freeCompPages p s).engine = s.engine := rfl
@[simp] theorem freeCompPages_conditions (p : Nat) : (freeCompPages p s).conditions = s.conditions := rfl
@[simp] theorem freeCompPages_pending (p : Nat) : (freeCompPages p s).pending = s.pending := rfl
@[simp] theorem slot_freeCompPages (p : Nat) (m : SlotNo) : (freeCompPages p s).slot m = s.slot m := rfl
@[simp] theorem gate_freeCompPages (p : Nat) (h : GateNo) : (freeCompPages p s).gate h = s.gate h := rfl
@[simp] theorem source_freeCompPages (p : Nat) (j : SourceNo) : (freeCompPages p s).source j = s.source j := rfl
@[simp] theorem domain_freeCompPages (p : Nat) (e : DomainNo) : (freeCompPages p s).domain e = s.domain e := rfl
@[simp] theorem stream_freeCompPages (p : Nat) (j : StreamIndex) : (freeCompPages p s).stream j = s.stream j := rfl
@[simp] theorem deadline_freeCompPages (p : Nat) (j : Selector) : (freeCompPages p s).deadline j = s.deadline j := rfl
@[simp] theorem level_freeCompPages (p : Nat) (m : Level) : (freeCompPages p s).level m = s.level m := rfl
@[simp] theorem tagged_freeCompPages (p : Nat) (src' : SourceNo) (tag' : Byte) : (freeCompPages p s).tagged src' tag' = s.tagged src' tag' := rfl
@[simp] theorem cond_freeCompPages (p : Nat) (j : CondKind) : (freeCompPages p s).cond j = s.cond j := rfl
@[simp] theorem port_freeCompPages (p : Nat) (q : PortId) : (freeCompPages p s).port q = s.port q := by cases q <;> rfl

/-! ### What they change -/

theorem cond_raise (k j : CondKind) (x : BitVec 32) :
    (raise k x s).cond j = if j = k then (s.cond k).occur x else s.cond j :=
  State.cond_setCond s k j _

theorem slot_owe (st : SlotState) (a : Answer) (n m : SlotNo) :
    (owe st a n s).slot m = if m = n then
      { s.slot n with state := st, answer := some a, holdDeadline := none, serviceDeadline := none } else s.slot m :=
  State.slot_setSlot s n m _
@[simp] theorem owe_answers (st : SlotState) (a : Answer) (n : SlotNo) : (owe st a n s).answers = s.answers ++ [n] := rfl
@[simp] theorem leaveAnswers_answers (n : SlotNo) :
    (leaveAnswers n s).answers = s.answers.filter (fun m => m != n) := rfl
@[simp] theorem claimTxPages_freePages (p : Nat) : (claimTxPages p s).freePages = s.freePages - p := rfl
@[simp] theorem claimTxPages_txPages (p : Nat) : (claimTxPages p s).txPages = s.txPages + p := rfl
@[simp] theorem claimCompPages_freePages (p : Nat) : (claimCompPages p s).freePages = s.freePages - p := rfl
@[simp] theorem claimCompPages_compPages (p : Nat) : (claimCompPages p s).compPages = s.compPages + p := rfl
@[simp] theorem freeTxPages_freePages (p : Nat) : (freeTxPages p s).freePages = s.freePages + p := rfl
@[simp] theorem freeTxPages_txPages (p : Nat) : (freeTxPages p s).txPages = s.txPages - p := rfl
@[simp] theorem freeCompPages_freePages (p : Nat) : (freeCompPages p s).freePages = s.freePages + p := rfl
@[simp] theorem freeCompPages_compPages (p : Nat) : (freeCompPages p s).compPages = s.compPages - p := rfl

/-! ### Changes of one entry -/

@[simp] theorem modifySlot_eq (n : SlotNo) (f : Slot → Slot) : modifySlot n f s = s.setSlot n (f (s.slot n)) := rfl
@[simp] theorem modifyGate_eq (g : GateNo) (f : Gate → Gate) : modifyGate g f s = s.setGate g (f (s.gate g)) := rfl
@[simp] theorem modifySource_eq (i : SourceNo) (f : SourceEntry → SourceEntry) :
    modifySource i f s = s.setSource i (f (s.source i)) := rfl
@[simp] theorem modifyDomain_eq (d : DomainNo) (f : DomainEntry → DomainEntry) :
    modifyDomain d f s = s.setDomain d (f (s.domain d)) := rfl
@[simp] theorem modifyPort_eq (p : PortId) (f : Port → Port) : modifyPort p f s = s.setPort p (f (s.port p)) := rfl

end Sys2Proof.Machine
end

