-- ==== Sys2Proof/Laws/Ops.lean ====
section
/-! SUPPORT. One lemma for each shared operation that says everything it does, in the relations of Sys2Proof/Safety.lean. -/

set_option linter.unusedSimpArgs false

namespace Sys2Proof.Machine

variable (s : State)

/-! ### Conditions -/

theorem raise_raised (k : CondKind) (x : BitVec 32) : Raised k x s (raise k x s) where
  first h := by rw [cond_raise]; simp [CondEntry.occur, h]
  again h := by rw [cond_raise]; simp [CondEntry.occur, h, Config.maxOccurrences]
  others j h := by rw [cond_raise]; simp [h]
  queued h1 h2 := by simp [raise, h1, h2]
  silent h := by rcases h with h | h <;> simp [raise, h]
  frame := rfl

theorem clearCond_cleared (k : CondKind) : Cleared k s (clearCond k s) where
  entry := by
    show (s.setCond k (s.cond k).cleared).cond k = _
    rw [State.cond_setCond_same]; rfl
  others j h := by
    show (s.setCond k (s.cond k).cleared).cond j = _
    rw [State.cond_setCond]; simp [h]
  notices := rfl
  frame := rfl

/-! ### Slots and their collections -/

theorem owe_owes (st : SlotState) (a : Answer) (n : SlotNo) : Owes st a n s (owe st a n s) where
  slot := by
    show (s.setSlot n _).slot n = _
    rw [State.slot_setSlot_same]
  others m h := by
    show (s.setSlot n _).slot m = _
    rw [State.slot_setSlot]; simp [h]
  answers := rfl
  frame := rfl

theorem leaveHoldQueue_left (n : SlotNo) : LeftQueue n s (leaveHoldQueue n s) where
  queue := by simp [leaveHoldQueue]
  others g h := by simp [leaveHoldQueue, State.gate_setGate, h]
  frame := rfl

theorem leaveLadder_left (n : SlotNo) : LeftLevel n s (leaveLadder n s) where
  level := by simp [leaveLadder]
  others l h := by simp [leaveLadder, State.level_setLevel, h]
  frame := rfl

theorem releasePages_freed (n : SlotNo) : PagesFreed n s (releasePages n s) where
  slot := by
    show ((freeTxPages (s.slot n).pages s).setSlot n _).slot n = _
    rw [State.slot_setSlot_same]; rfl
  others m h := by
    show ((freeTxPages (s.slot n).pages s).setSlot n _).slot m = _
    rw [State.slot_setSlot]; simp only [h, if_false]; rfl
  free := rfl
  use := rfl
  frame := rfl

theorem laddered_tail (n : SlotNo) :
    Laddered .tail n s (enterLadder .tail n (modifySlot n (fun y => { y with state := .laddered, holdDeadline := none }) s)) where
  slot := by simp [enterLadder]
  others m h := by simp [enterLadder, State.slot_setSlot, h]
  level := by simp [enterLadder]
  otherLevels l h := by simp [enterLadder, State.level_setLevel, h]
  frame := rfl

theorem laddered_head (n : SlotNo) :
    Laddered .head n s (enterLadder .head n (modifySlot n (fun y => { y with state := .laddered, holdDeadline := none }) s)) where
  slot := by simp [enterLadder]
  others m h := by simp [enterLadder, State.slot_setSlot, h]
  level := by simp [enterLadder]
  otherLevels l h := by simp [enterLadder, State.level_setLevel, h]
  frame := rfl

/-- Release onto the ladder by a placement (R64). -/
theorem enterLadder_laddered (pl : Placement) (n : SlotNo) :
    Laddered pl n s (enterLadder pl n (modifySlot n (fun y => { y with state := .laddered, holdDeadline := none }) s)) := by
  cases pl
  · exact laddered_tail s n
  · exact laddered_head s n

/-! ### The end of a drain -/

theorem completeDrain_eq_self (d : DomainNo) (h : (s.domain d).drained = false) : completeDrain d s = s := by
  simp [completeDrain, h]

theorem leaveActive_fell (d : DomainNo) : ActiveFell d s (leaveActive .atOnce d s) := by
  have hd : (lowerActive d s).domain d = { s.domain d with active := (s.domain d).active - 1 } := by
    simp [lowerActive]
  have ho : ∀ e, e ≠ d → (lowerActive d s).domain e = s.domain e := by
    intro e h; simp [lowerActive, State.domain_setDomain, h]
  by_cases h : ((lowerActive d s).domain d).drained = true
  · have he : leaveActive .atOnce d s = raise .drainComplete (numberDetail d.toNat)
        (modifyDomain d (fun e => { e with state := .closed, mode := none, codeMatches := true }) (lowerActive d s)) := by
      simp only [leaveActive, completeDrain, h, if_true]
    have h' := h
    rw [hd] at h'
    simp only [DomainEntry.drained, Bool.and_eq_true, decide_eq_true_eq] at h'
    rw [he]
    refine { others := ?_, frame := rfl, completes := ?_, falls := ?_ }
    · intro e hne
      show ((lowerActive d s).setDomain d _).domain e = _
      rw [State.domain_setDomain]; simp only [hne, if_false]; exact ho e hne
    · intro h1 h2 h3
      refine ⟨?_, raise_raised _ _ _⟩
      show ((lowerActive d s).setDomain d _).domain d = _
      rw [State.domain_setDomain_same, hd, h3]
      simp [h1]
    · intro hc
      rcases hc with hc | hc | hc
      · rw [h'.1.1] at hc; cases hc
      · exact absurd h'.1.2 hc
      · exact absurd h'.2 hc
  · have he : leaveActive .atOnce d s = lowerActive d s := by
      simp only [leaveActive, completeDrain, h]; rfl
    rw [hd] at h
    rw [he]
    refine { others := ho, frame := rfl, completes := ?_, falls := fun _ => ⟨hd, rfl, rfl⟩ }
    intro h1 h2 h3
    exact absurd (by simp [DomainEntry.drained, h1, h2, h3]) h

theorem leaveActive_deferred_lowered (d : DomainNo) : ActiveLowered d s (leaveActive .deferred d s) where
  domain := by simp [leaveActive, lowerActive]
  others e h := by simp [leaveActive, lowerActive, State.domain_setDomain, h]
  frame := rfl

/-- A slot leaves the counting states, by either report. -/
theorem leaveActive_fell_by (r : FallReport) (d : DomainNo) : Fell r d s (leaveActive r d s) := by
  cases r
  · exact leaveActive_fell s d
  · exact leaveActive_deferred_lowered s d

theorem completeDrain_checked (d : DomainNo) : DrainChecked d s (completeDrain d s) := by
  by_cases h : (s.domain d).drained = true
  · have he : completeDrain d s = raise .drainComplete (numberDetail d.toNat)
        (modifyDomain d (fun e => { e with state := .closed, mode := none, codeMatches := true }) s) := by
      simp only [completeDrain, h, if_true]
    have h' := h
    simp only [DomainEntry.drained, Bool.and_eq_true, decide_eq_true_eq] at h'
    rw [he]
    refine { others := ?_, completes := ?_, stays := ?_ }
    · intro e hne
      show (s.setDomain d _).domain e = _
      rw [State.domain_setDomain]; simp only [hne, if_false]
    · intro h1 h2 h3
      refine ⟨?_, raise_raised _ _ _⟩
      show (s.setDomain d _).domain d = _
      rw [State.domain_setDomain_same]; simp [h1]
    · intro hc
      rcases hc with hc | hc | hc
      · rw [h'.1.1] at hc; cases hc
      · exact absurd h'.1.2 hc
      · exact absurd h'.2 hc
  · have he : completeDrain d s = s := by simp only [completeDrain, h]; rfl
    rw [he]
    refine { others := fun _ _ => rfl, completes := ?_, stays := fun _ => rfl }
    intro h1 h2 h3
    exact absurd (by simp [DomainEntry.drained, h1, h2, h3]) h

/-! ### Gives -/

/-- The gate's record after one more give that is not surplus. -/
theorem release_released (r : FallReport) (g : GateNo) (n : SlotNo) (q : List SlotNo)
    (h : (s.gate g).holdQueue = n :: q) :
    Released r g n q s (release r g (modifyGate g (fun e => { e with gives := e.gives + 1 }) s)) := by
  have hg : (modifyGate g (fun e => { e with gives := e.gives + 1 }) s).gate g =
      { s.gate g with gives := (s.gate g).gives + 1 } := by simp
  refine ⟨modifyGate g (fun e => { e with holdQueue := q }) (modifyGate g (fun e => { e with gives := e.gives + 1 }) s),
    ⟨by simp, fun h hne => by simp [State.gate_setGate, hne], rfl⟩, ?_, ?_⟩
  · intro hk
    have hk' : ((modifyGate g (fun e => { e with gives := e.gives + 1 }) s).slot n).kind = .transact := hk
    unfold release
    rw [hg]
    simp only [h, hk']
    exact enterLadder_laddered _ _ _
  · intro hk
    have hk' : ((modifyGate g (fun e => { e with gives := e.gives + 1 }) s).slot n).kind = .await := hk
    unfold release
    rw [hg]
    simp only [h, hk']
    exact ⟨_, owe_owes _ _ _ _, leaveActive_fell_by _ _ _⟩

/-- A give does exactly one of its three cases (R6, R7, R8). -/
theorem give_gave (c : GiveCause) (r : FallReport) (g : GateNo) : Gave r (decide (c = .post)) g s (give c r g s) where
  waiting n q h := by
    have h' : (s.gate g).holdQueue ≠ [] := by simp [h]
    simp only [give, h', ne_eq, not_false_eq_true, if_true]
    exact release_released s r g n q h
  rises h1 h2 := by
    simp only [give, h1, ne_eq, not_true_eq_false, if_false, h2, if_true]
    exact ⟨by simp [h1], fun h hne => by simp [State.gate_setGate, hne], rfl⟩
  surplus h1 h2 := by
    simp only [give, h1, ne_eq, not_true_eq_false, if_false, Nat.not_lt.mpr h2]
    cases c
    · exact ⟨by simp [surplusGive, h1], fun h hne => by simp [surplusGive, State.gate_setGate, hne], fun _ => rfl,
        fun hc => by simp at hc⟩
    · exact ⟨by simp [surplusGive, h1], fun h hne => by simp [surplusGive, State.gate_setGate, hne],
        fun hc => by simp at hc, fun _ => raise_raised _ _ _⟩

/-- The give that a slot's end makes, when its flag is set (R78, R85). -/
theorem completionGive_gave (x : Slot) : GaveIf x.giveOnCompletion x.giveGate s (completionGive .atOnce x s) := by
  unfold GaveIf completionGive
  split
  · exact give_gave s .noSender .atOnce _
  · rfl

theorem giveEach_gave (r : FallReport) (gs : List GateNo) : GaveEach r gs s (giveEach .noSender r gs s) := by
  induction gs generalizing s with
  | nil => rfl
  | cons g gs ih => exact ⟨_, give_gave s .noSender r g, ih _⟩

theorem postGives_gave (g : GateNo) (n : Nat) : GaveTimes g n s (postGives g n s) := by
  induction n generalizing s with
  | zero => rfl
  | succ n ih => exact ⟨_, give_gave s .post .atOnce g, ih _⟩

/-! ### Freeing and lapsing -/

theorem leaveCollection_frame (n : SlotNo) :
    ∃ a b c, leaveCollection n s = { s with gates := a, ladder := b, answers := c } := by
  unfold leaveCollection; split <;> exact ⟨_, _, _, rfl⟩

theorem endIndex_frame (x : Slot) : ∃ a b, endIndex x s = { s with sources := a, tagIndex := b } := by
  unfold endIndex; split <;> exact ⟨_, _, rfl⟩

theorem endActive_frame (x : Slot) : ∃ a, endActive x s = { s with domains := a } := by
  unfold endActive; split <;> exact ⟨_, rfl⟩

theorem freeSlot_frame (n : SlotNo) : ∃ a b c d e f g h i j, freeSlot n s = { s with
    slots := a, gates := b, ladder := c, answers := d, tagIndex := e, sources := f, domains := g
    freePages := h, txPages := i, compPages := j } := by
  obtain ⟨a1, a2, a3, h1⟩ := leaveCollection_frame s n
  obtain ⟨b1, b2, h2⟩ := endIndex_frame (leaveCollection n s) (s.slot n)
  obtain ⟨c1, h3⟩ := endActive_frame (endIndex (s.slot n) (leaveCollection n s)) (s.slot n)
  have h4 : endActive (s.slot n) (endIndex (s.slot n) (leaveCollection n s)) = { s with
      gates := a1, ladder := a2, answers := a3, sources := b1, tagIndex := b2, domains := c1 } := by
    rw [h3, h2, h1]
  iterate 10 apply Exists.intro
  rw [freeSlot, h4]
  rfl

theorem lapseSlot_frame (n : SlotNo) : ∃ a b c d e f g, lapseSlot n s = { s with
    slots := a, gates := b, ladder := c, answers := d, tagIndex := e, sources := f, domains := g } := by
  obtain ⟨a1, a2, a3, h1⟩ := leaveCollection_frame s n
  obtain ⟨b1, b2, h2⟩ := endIndex_frame (leaveCollection n s) (s.slot n)
  obtain ⟨c1, h3⟩ := endActive_frame (endIndex (s.slot n) (leaveCollection n s)) (s.slot n)
  have h4 : endActive (s.slot n) (endIndex (s.slot n) (leaveCollection n s)) = { s with
      gates := a1, ladder := a2, answers := a3, sources := b1, tagIndex := b2, domains := c1 } := by
    rw [h3, h2, h1]
  iterate 7 apply Exists.intro
  rw [lapseSlot, h4]
  rfl

theorem freeSlot_freed (n : SlotNo) : Freed n s (freeSlot n s) := by
  have key : ∀ x, s.slot n = x → Freed n s (freeSlot n s) := by
    intro x hx
    rcases hst : x.state with _ | _ | _ | _ | _ | _ | _ <;>
    exact {
      slot := by simp [freeSlot]
      others := fun m h => by
        simp [freeSlot, dropClaim, endActive, endIndex, leaveCollection, hx, hst,
          SlotState.indexed, SlotState.counted, leaveHoldQueue, leaveLadder, leaveIndex, lowerActive, State.slot_setSlot, h]
      gates := fun g => by
        by_cases h1 : g = x.takeGate <;> by_cases h2 : g = x.giveGate <;>
        simp [freeSlot, dropClaim, endActive, endIndex, leaveCollection, hx, hst,
          SlotState.indexed, SlotState.counted, leaveHoldQueue, leaveLadder, leaveIndex, lowerActive, State.gate_setGate,
          h1, h2] <;> simp_all
      levels := fun l => by
        by_cases h1 : l = x.priority <;>
        simp [freeSlot, dropClaim, endActive, endIndex, leaveCollection, hx, hst,
          SlotState.indexed, SlotState.counted, leaveHoldQueue, leaveLadder, leaveIndex, lowerActive,
          State.level_setLevel, h1]
      answers := by
        simp [freeSlot, dropClaim, endActive, endIndex, leaveCollection, hx, hst,
          SlotState.indexed, SlotState.counted, leaveHoldQueue, leaveLadder, leaveIndex, lowerActive]
      tags := fun src tag => by
        simp [freeSlot, dropClaim, endActive, endIndex, leaveCollection, hx, hst,
          SlotState.indexed, SlotState.counted, leaveHoldQueue, leaveLadder, leaveIndex, lowerActive, State.tagged_setTagged]
      sources := fun i => by
        by_cases h1 : i = x.source <;>
        simp [freeSlot, dropClaim, endActive, endIndex, leaveCollection, hx, hst,
          SlotState.indexed, SlotState.counted, leaveHoldQueue, leaveLadder, leaveIndex, lowerActive,
          State.source_setSource, h1]
      domains := fun d => by
        by_cases h1 : d = x.domain <;>
        simp [freeSlot, dropClaim, endActive, endIndex, leaveCollection, hx, hst,
          SlotState.indexed, SlotState.counted, leaveHoldQueue, leaveLadder, leaveIndex, lowerActive,
          State.domain_setDomain, h1]
      free := by
        simp [freeSlot, dropClaim, endActive, endIndex, leaveCollection, hx, hst,
          SlotState.indexed, SlotState.counted, leaveHoldQueue, leaveLadder, leaveIndex, lowerActive]
      use := by
        simp [freeSlot, dropClaim, endActive, endIndex, leaveCollection, hx, hst,
          SlotState.indexed, SlotState.counted, leaveHoldQueue, leaveLadder, leaveIndex, lowerActive]
      frame := by obtain ⟨_, _, _, _, _, _, _, _, _, _, h⟩ := freeSlot_frame s n; rw [h] }
  exact key _ rfl

/-- Lapsing a LAPSING slot (R28). -/
theorem lapseSlot_lapsed (n : SlotNo) (h : (s.slot n).state = .lapsing) : Lapsed n s (lapseSlot n s) where
  slot := by simp [lapseSlot]
  others m hm := by
    simp [lapseSlot, endActive, endIndex, leaveCollection, h, SlotState.indexed, SlotState.counted, leaveIndex,
      State.slot_setSlot, hm]
  answers := by
    simp [lapseSlot, endActive, endIndex, leaveCollection, h, SlotState.indexed, SlotState.counted, leaveIndex]
  tags src tag := by
    simp [lapseSlot, endActive, endIndex, leaveCollection, h, SlotState.indexed, SlotState.counted, leaveIndex,
      State.tagged_setTagged]
  sources i := by
    by_cases h1 : i = (s.slot n).source <;>
    simp [lapseSlot, endActive, endIndex, leaveCollection, h, SlotState.indexed, SlotState.counted, leaveIndex,
      State.source_setSource, h1]
  frame := by
    simp only [lapseSlot, endActive, endIndex, leaveCollection, h, SlotState.indexed, SlotState.counted, Bool.false_eq_true,
      if_true, if_false]
    rfl

/-! ### Ports -/

theorem transmit_transmitted (port : PortId) (p : Packet) : Transmitted port p s (transmit port p s) where
  sent := by simp [transmit]
  frame := by simp [transmit]

theorem takeFromBuffer_took (port : PortId) : TookOldest port s (takeFromBuffer port s) where
  taken := by simp [takeFromBuffer]
  frame := by simp [takeFromBuffer]

theorem takeServicePacket_took : TookOldest .service s (takeServicePacket s) where
  taken := by simp [takeServicePacket]
  frame := by simp [takeServicePacket]

end Sys2Proof.Machine
end

