-- ==== Sys2Proof/Laws/Engine.lean ====
section
/-! SUPPORT. The management engine at a keyed record: what it finds at the batch's next position, and what taking the record leaves. -/

namespace Sys2Proof.Machine

variable {s : State} {b : Batch} {table index : Nat} {code : Byte} {value : List Byte} {kind : RecordKind}

theorem readTwo_split (h : index < 65536) : readTwo (BitVec.ofNat 8 (index / 256)) (BitVec.ofNat 8 index) = index := by
  have h1 : index / 256 < 256 := by omega
  simp only [readTwo, BitVec.toNat_append, BitVec.toNat_ofNat]
  rw [Nat.mod_eq_of_lt h1, Nat.shiftLeft_eq, ← Nat.shiftLeft_eq,
    Nat.shiftLeft_add_eq_or_of_lt (by omega : index % 2 ^ 8 < 2 ^ 8) (index / 256) |>.symm, Nat.shiftLeft_eq]
  omega

theorem toNat_byteOf {n : Nat} (h : n < 256) : (byteOf n).toNat = n := by
  simp [byteOf, BitVec.toNat_ofNat]; omega

/-- The bytes of a keyed record are found as that record. -/
theorem findRecord_recordBytes {position : Nat} (later : List Byte) (ht : table < 255) (hi : index < 65536)
    (hp : position < 32) (hv : value.length ≤ 16) (hk : RecordKind.ofCode code = some kind) :
    findRecord position (recordBytes table index code value ++ later) =
      .keyed { table := table, index := index, kind := kind, value := value } := by
  have h1 : byteOf table ≠ 0xFF := by
    intro h
    have := congrArg BitVec.toNat h
    rw [toNat_byteOf (by omega)] at this
    simp at this; omega
  have h2 : ¬ Config.lastPosition ≤ position := by simp [Config.lastPosition]; omega
  have h3 : ¬ (value.length > Config.maxValue ∨ value.length + later.length < value.length) := by
    simp [Config.maxValue]; omega
  simp only [recordBytes, twoBytes, List.cons_append, List.nil_append, findRecord, h1, if_false, h2, parseKeyed, hk,
    toNat_byteOf (by omega : value.length < 256), List.length_append, h3, readTwo_split hi,
    toNat_byteOf (by omega : table < 256), List.take_left]

/-- What the engine finds at a keyed record in key order. -/
theorem currentAction_atRecord (h : AtRecord s b table index code value) (hk : RecordKind.ofCode code = some kind) :
    currentAction s = some (b, match Record.owner { table := table, index := index, kind := kind, value := value } with
      | some op => .owned op { table := table, index := index, kind := kind, value := value }
      | none => .badKey { table := table, index := index, kind := kind, value := value }) := by
  obtain ⟨waiting, hb⟩ := h.head
  obtain ⟨later, hl⟩ := h.bytes
  have ho : outOfOrder b { table := table, index := index, kind := kind, value := value } = false := by
    unfold outOfOrder
    split
    · rfl
    · rename_i k hkey
      have := h.order k hkey
      simp only [keyBelow, Bool.or_eq_false_iff, Bool.and_eq_false_iff, decide_eq_false_iff_not]
      omega
  simp only [currentAction, h.applying, hb, Batch.nextAction, Batch.rest, hl,
    findRecord_recordBytes later h.tableFits h.indexFits h.position h.short hk, ho]
  rfl

/-- A record row at its record: the rule's ruling, and the head batch moved past the record. -/
theorem takeRecord_atRecord {op : RecordOp} (rule : Record → State → Ruling) (h : AtRecord s b table index code value)
    (hk : RecordKind.ofCode code = some kind)
    (ho : Record.owner { table := table, index := index, kind := kind, value := value } = some op) :
    takeRecord op rule s =
      (rule { table := table, index := index, kind := kind, value := value } s).state.withHead
        (b.afterRecord table index value (rule { table := table, index := index, kind := kind, value := value } s).status
          (rule { table := table, index := index, kind := kind, value := value } s).data) := by
  simp only [takeRecord, currentAction_atRecord h hk, ho, if_true]
  rfl

end Sys2Proof.Machine
end

