-- ==== Sys2Proof/Laws/Codes.lean ====
section
/-! SUPPORT. The values of management records (R175): each reader of a value inverts the layout that Safety.lean gives it, so a value is taken exactly when it is laid out so. -/

namespace Sys2Proof.Machine

/-! ## Codes of one byte -/

theorem readYesNo_iff {x : Byte} {b : Bool} : readYesNo x = some b ↔ x = yesNo b := by
  unfold readYesNo yesNo
  cases b <;> split <;> [skip; split; skip; split] <;> simp_all

theorem readSourceState_iff {x : Byte} {st : SourceState} : readSourceState x = some st ↔ x = sourceStateCode st := by
  unfold readSourceState
  cases st <;> simp only [sourceStateCode] <;> split <;> [skip; (split <;> [skip; split]); skip; (split <;> [skip; split]);
    skip; (split <;> [skip; split])] <;> simp_all

theorem readClass_iff {x : Byte} {c : SourceClass} : readClass x = some c ↔ x = classCode c := by
  unfold readClass
  cases c <;> simp only [classCode] <;> split <;> [skip; split; skip; split] <;> simp_all

theorem readPlacement_iff {x : Byte} {c : Placement} : readPlacement x = some c ↔ x = placementCode c := by
  unfold readPlacement
  cases c <;> simp only [placementCode] <;> split <;> [skip; split; skip; split] <;> simp_all

theorem readClearMode_iff {x : Byte} {c : ClearMode} : readClearMode x = some c ↔ x = clearModeCode c := by
  unfold readClearMode
  cases c <;> simp only [clearModeCode] <;> split <;> [skip; split; skip; split] <;> simp_all

theorem readAccess_iff {x : Byte} {a : Access} : readAccess x = some a ↔ x = accessCode a := by
  unfold readAccess
  by_cases h0 : x = 0
  · subst h0; cases a <;> decide
  by_cases h1 : x = 1
  · subst h1; cases a <;> decide
  by_cases h2 : x = 2
  · subst h2; cases a <;> decide
  by_cases h3 : x = 3
  · subst h3; cases a <;> decide
  by_cases h4 : x = 4
  · subst h4; cases a <;> decide
  simp only [h0, h1, h2, h3, h4, if_false]
  cases a <;> simp_all [accessCode]

/-! ## Numbers -/

theorem readTwo_twoBytes {n : Nat} (h : n < 65536) : readTwo (BitVec.ofNat 8 (n / 256)) (BitVec.ofNat 8 n) = n := readTwo_split h

theorem twoBytes_readTwo (hi lo : Byte) : twoBytes (readTwo hi lo) = [hi, lo] := by
  have h : readTwo hi lo = hi.toNat * 256 + lo.toNat := by
    unfold readTwo
    rw [BitVec.toNat_append, ← Nat.shiftLeft_add_eq_or_of_lt lo.isLt, Nat.shiftLeft_eq]
  have h1 := hi.isLt
  have h2 := lo.isLt
  unfold twoBytes
  rw [h]
  have e1 : BitVec.ofNat 8 ((hi.toNat * 256 + lo.toNat) / 256) = hi := by
    apply BitVec.eq_of_toNat_eq; simp; omega
  have e2 : BitVec.ofNat 8 (hi.toNat * 256 + lo.toNat) = lo := by
    apply BitVec.eq_of_toNat_eq; simp; omega
  rw [e1, e2]

/-- A number below 2^w that a byte carries is read back by the byte's low bits. -/
theorem byteOf_extract {w : Nat} (hw : w ≤ 8) (x : BitVec w) : (byteOf x.toNat).extractLsb' 0 w = x := by
  have h : x.toNat < 256 := Nat.lt_of_lt_of_le x.isLt (Nat.pow_le_pow_right (by omega) hw)
  apply BitVec.eq_of_toNat_eq
  simp [byteOf, BitVec.extractLsb'_toNat, Nat.mod_eq_of_lt h, Nat.mod_eq_of_lt x.isLt]

/-- A byte below 2^w is the byte of its low bits. -/
theorem extract_byteOf {w : Nat} {x : Byte} (h : x.toNat < 2 ^ w) : byteOf (x.extractLsb' 0 w).toNat = x := by
  apply BitVec.eq_of_toNat_eq
  simp [byteOf, BitVec.extractLsb'_toNat, Nat.mod_eq_of_lt h]

theorem toNat_byteOf_bits {w : Nat} (hw : w ≤ 8) (x : BitVec w) : (byteOf x.toNat).toNat < 2 ^ w := by
  have h : x.toNat < 256 := Nat.lt_of_lt_of_le x.isLt (Nat.pow_le_pow_right (by omega) hw)
  rw [toNat_byteOf h]; exact x.isLt

/-! ## Values of records -/

theorem readSourceValue_iff {v : List Byte} {c : SourceContents} :
    readSourceValue v = some c ↔ c.limit ≤ 1024 ∧ v = sourceValue c := by
  constructor
  · intro h
    unfold readSourceValue at h
    split at h
    · split at h
      · rename_i st cl l1 l0 _ _ x y h1 h2
        split at h
        · rename_i h3
          injection h with h; subst h
          exact ⟨h3, by simp [sourceValue, ← readSourceState_iff.mp h1, ← readClass_iff.mp h2, twoBytes_readTwo]⟩
        · cases h
      · cases h
    · cases h
  · rintro ⟨h, rfl⟩
    simp only [sourceValue, twoBytes, List.cons_append, List.nil_append, readSourceValue, readSourceState_iff.mpr rfl,
      readClass_iff.mpr rfl, readTwo_twoBytes (by omega : c.limit < 65536)]
    rw [if_pos h]

theorem readStreamValue_iff {v : List Byte} {c : StreamContents} : readStreamValue v = some c ↔ v = streamValue c := by
  constructor
  · intro h
    unfold readStreamValue at h
    split at h
    · split at h
      · rename_i v tg gg pr a b sel _ _ _ x y z h1 h2 h3
        split at h
        · rename_i h4
          injection h with h; subst h
          simp only [streamValue, ← readYesNo_iff.mp h1, ← readAccess_iff.mp h2, ← readAccess_iff.mp h3,
            extract_byteOf (w := 3) (x := pr) (by omega), extract_byteOf (w := 4) (x := sel) (by omega)]
        · cases h
      · cases h
    · cases h
  · rintro rfl
    have h1 := toNat_byteOf_bits (by omega) c.priority
    have h2 := toNat_byteOf_bits (by omega) c.selector
    have h3 : (byteOf c.priority.toNat).toNat ≤ 7 ∧ (byteOf c.selector.toNat).toNat ≤ 15 := by omega
    simp only [streamValue, readStreamValue, readYesNo_iff.mpr rfl, readAccess_iff.mpr rfl, h3, and_self, if_true,
      byteOf_extract (by omega : 3 ≤ 8), byteOf_extract (by omega : 4 ≤ 8)]

theorem readDomainValue_iff {v : List Byte} {valid : Bool} {base size : Nat} :
    readDomainValue v = some (valid, base, size) ↔
      base ≤ 2047 ∧ 1 ≤ size ∧ size ≤ 1024 ∧ v = domainValue valid base size := by
  constructor
  · intro h
    unfold readDomainValue at h
    split at h
    · split at h
      · rename_i v b1 b0 z1 z0 _ x h1
        split at h
        · rename_i h2
          injection h with h
          simp only [Prod.mk.injEq] at h
          obtain ⟨rfl, rfl, rfl⟩ := h
          refine ⟨Nat.le_of_lt_succ h2.1, h2.2.1, h2.2.2, ?_⟩
          simp [domainValue, ← readYesNo_iff.mp h1, twoBytes_readTwo]
        · cases h
      · cases h
    · cases h
  · rintro ⟨h1, h2, h3, rfl⟩
    simp only [domainValue, twoBytes, List.cons_append, List.nil_append, readDomainValue, readYesNo_iff.mpr rfl,
      readTwo_twoBytes (by omega : base < 65536), readTwo_twoBytes (by omega : size < 65536)]
    rw [if_pos ⟨Nat.lt_succ_of_le h1, h2, h3⟩]

theorem readGateValue_iff {v : List Byte} {valid : Bool} {ceiling : Nat} {placement : Placement} {sel : Selector} :
    readGateValue v = some (valid, ceiling, placement, sel) ↔
      1 ≤ ceiling ∧ ceiling ≤ 4095 ∧ v = gateValue valid ceiling placement sel := by
  constructor
  · intro h
    unfold readGateValue at h
    split at h
    · split at h
      · rename_i v c1 c0 pl sl _ _ x y h1 h2
        split at h
        · rename_i h3
          injection h with h
          simp only [Prod.mk.injEq] at h
          obtain ⟨rfl, rfl, rfl, rfl⟩ := h
          refine ⟨h3.1, h3.2.1, ?_⟩
          simp only [gateValue, ← readYesNo_iff.mp h1, ← readPlacement_iff.mp h2, twoBytes_readTwo,
            extract_byteOf (w := 4) (x := sl) (by omega), List.cons_append, List.nil_append]
        · cases h
      · cases h
    · cases h
  · rintro ⟨h1, h2, rfl⟩
    have h3 := toNat_byteOf_bits (by omega) sel
    simp only [gateValue, twoBytes, List.cons_append, List.nil_append, readGateValue, readYesNo_iff.mpr rfl,
      readPlacement_iff.mpr rfl, readTwo_twoBytes (by omega : ceiling < 65536), byteOf_extract (by omega : 4 ≤ 8)]
    rw [if_pos ⟨h1, h2, by omega⟩]

theorem readDeviceValue_iff {v : List Byte} {reserve threshold : Nat} {target : SourceNo} {mode : ClearMode} :
    readDeviceValue v = some (reserve, threshold, target, mode) ↔
      reserve ≤ 2048 ∧ threshold ≤ 1023 ∧ v = deviceValue reserve threshold target mode := by
  constructor
  · intro h
    unfold readDeviceValue at h
    split at h
    · split at h
      · rename_i r1 r0 t1 t0 tg md _ m h1
        split at h
        · rename_i h2
          injection h with h
          simp only [Prod.mk.injEq] at h
          obtain ⟨rfl, rfl, rfl, rfl⟩ := h
          refine ⟨h2.1, h2.2.1, ?_⟩
          simp only [deviceValue, ← readClearMode_iff.mp h1, twoBytes_readTwo,
            extract_byteOf (w := 6) (x := tg) (by omega), List.cons_append, List.nil_append]
        · cases h
      · cases h
    · cases h
  · rintro ⟨h1, h2, rfl⟩
    have h3 := toNat_byteOf_bits (by omega) target
    simp only [deviceValue, twoBytes, List.cons_append, List.nil_append, readDeviceValue, readClearMode_iff.mpr rfl,
      readTwo_twoBytes (by omega : reserve < 65536), readTwo_twoBytes (by omega : threshold < 65536),
      byteOf_extract (by omega : 6 ≤ 8)]
    rw [if_pos ⟨h1, h2, by omega⟩]

theorem readMaskValue_iff {v : List Byte} {m : Bool} : readMaskValue v = some m ↔ v = [yesNo m] := by
  unfold readMaskValue
  split
  · simp [readYesNo_iff]
  · rename_i h
    constructor
    · intro h'; cases h'
    · rintro rfl; exact absurd rfl (h _)

theorem readGiveValue_iff {v : List Byte} {g : Bool} : readGiveValue v = some g ↔ v = [yesNo g] := by
  unfold readGiveValue
  split
  · simp [readYesNo_iff]
  · rename_i h
    constructor
    · intro h'; cases h'
    · rintro rfl; exact absurd rfl (h _)

/-- A READ's view: none is named by no value, or by one byte below the number of views. -/
theorem readView_iff {n m : Nat} (hn : 0 < n) (hb : n ≤ 256) {v : List Byte} :
    readView n v = some m ↔ (v = [] ∧ m = 0) ∨ (m < n ∧ v = [byteOf m]) := by
  unfold readView
  split
  · constructor
    · intro h; injection h with h; exact Or.inl ⟨rfl, h.symm⟩
    · rintro (⟨_, rfl⟩ | ⟨_, h⟩)
      · rfl
      · cases h
  · rename_i x
    constructor
    · intro h
      split at h
      · rename_i h1
        injection h with h; subst h
        exact Or.inr ⟨h1, by simp [byteOf]⟩
      · cases h
    · rintro (⟨h, _⟩ | ⟨h1, h2⟩)
      · cases h
      · simp only [List.cons.injEq, and_true] at h2
        subst h2
        rw [toNat_byteOf (by omega), if_pos h1]
  · rename_i h1 h2
    constructor
    · intro h; cases h
    · rintro (⟨h, _⟩ | ⟨_, h⟩)
      · exact absurd h h1
      · exact absurd h (h2 _)

/-! ## Owners of records -/

/-- A record whose index the table has belongs to the rule that the table names for its kind (R133, R136). -/
theorem owner_of_index {table index : Nat} {kind : RecordKind} {value : List Byte} (h : index < tableSize table) :
    Record.owner { table := table, index := index, kind := kind, value := value } = tableTakes table kind := by
  simp [Record.owner, h]

end Sys2Proof.Machine
end

