-- ==== Sys2Proof/Laws/Sessions.lean ====
section
/-! SUPPORT. The slots that a session change or RESTART walks over, and the gates that its gives reach, are those that the statements name: all slots in ascending order, filtered by their state. -/

namespace Sys2Proof.Machine

/-- Two rising lists with the same members are equal. -/
theorem rising_ext {l m : List Nat} (hl : l.Pairwise (· < ·)) (hm : m.Pairwise (· < ·)) (h : ∀ x, x ∈ l ↔ x ∈ m) :
    l = m :=
  ((List.perm_ext_iff_of_nodup (hl.imp Nat.ne_of_lt) (hm.imp Nat.ne_of_lt)).mpr h).eq_of_pairwise
    (fun _ _ _ _ hab hba => absurd hab (Nat.lt_asymm hba)) hl hm

/-- The slots that are not FREE are those of the whole pool in ascending order (R25). -/
theorem usedSlots_eq {s : State} (h : TablesCanonical s) :
    s.usedSlots = everySlot.filter (fun n => decide ((s.slot n).state ≠ .free)) := by
  have key : (s.slots.filter (fun e => e.2.state != .free)).map Prod.fst =
      (List.range 1024).filter (fun n => decide ((s.slots.get Slot.reset n).state ≠ .free)) := by
    refine rising_ext ?_ (List.pairwise_lt_range.filter _) (fun x => ?_)
    · exact List.pairwise_map.mpr (h.slots.wf.1.filter _)
    · simp only [List.mem_map, List.mem_filter, List.mem_range, decide_eq_true_eq, bne_iff_ne]
      constructor
      · rintro ⟨e, ⟨he, hf⟩, rfl⟩
        exact ⟨h.slots.within e he, by rw [Table.get_of_mem h.slots.wf he]; exact hf⟩
      · rintro ⟨_, hx⟩
        rcases Table.get_mem Slot.reset s.slots x with hd | hd
        · rw [hd] at hx; exact absurd rfl hx
        · exact ⟨_, ⟨hd, hx⟩, rfl⟩
  have : s.usedSlots = ((s.slots.filter (fun e => e.2.state != .free)).map Prod.fst).map (BitVec.ofNat 10) := by
    simp [State.usedSlots, Function.comp_def]
  refine this.trans ((congrArg (List.map (BitVec.ofNat 10)) (key.trans (List.filter_congr (fun x hx => ?_)))).trans
    List.filter_map.symm)
  have : x < 1024 := List.mem_range.mp hx
  simp [State.slot, Nat.mod_eq_of_lt this]

/-- A selection among the slots that are not FREE is one among all slots, when it selects no FREE slot. -/
theorem usedSlots_select {s : State} (h : TablesCanonical s) {α : Type} (P : SlotNo → Prop) [DecidablePred P]
    (f : SlotNo → α) (hP : ∀ n, P n → (s.slot n).state ≠ .free) :
    s.usedSlots.filterMap (fun n => if P n then some (f n) else none) = (everySlot.filter (fun n => decide (P n))).map f := by
  rw [usedSlots_eq h]
  induction everySlot with
  | nil => rfl
  | cons n l ih =>
    simp only [ne_eq, decide_not] at ih ⊢
    by_cases hn : P n
    · simp [hn, hP n hn, ih]
    · by_cases hf : (s.slot n).state = .free <;> simp [hn, hf, ih]

/-- The give-backs of an initiator session change go to the gates that R20 names, in its order. -/
theorem giveBackGates_eq {s : State} (h : TablesCanonical s) : giveBackGates s = initiatorGiveBacks s :=
  usedSlots_select h _ _ (fun n hn => by rcases hn with hn | ⟨hn, _⟩ <;> simp [hn])

/-- The gives of a service session change go to the gates that R90 and R91 name, in their order. -/
theorem serviceGiveGates_eq {s : State} (h : TablesCanonical s) : serviceGiveGates s = serviceGives s :=
  usedSlots_select h _ _ (fun n hn => by rcases hn with ⟨hn | hn | hn, _⟩ <;> simp [hn])

end Sys2Proof.Machine
end

