-- ==== Sys2Proof/Tests/Slice0.lean ====
section
/-! SUPPORT. The model's own tests: ill-formed commands, each command on a small state, and for every obligation with hypotheses a state and operands that meet them together. -/

namespace Sys2Proof.Tests

open Sys2Proof.Machine

/- Each kernel evaluation would otherwise take a thread with a stack of its own. -/
set_option Elab.async false

/-! ## Small states -/

/-- The state that a command answers. -/
def after (c : Instr) (s : State) : State :=
  match exec c s with
  | .next t => t
  | .fault _ => s
  | .refused _ => s

/-- A port that is UP with a send credit. -/
def upPort (credit : Nat) : Port :=
  { Port.reset with link := .up, session := 7, announced := true, credit := credit, creditLimit := 8, partnerCredit := 16 }

/-- A gate in use. -/
def openGate (allowance : Nat) : Gate := { Gate.reset with valid := true, ceiling := 2, allowance := allowance }

/-- Both links UP; source 0 a manager and source 1 a member; domain 0 open with one flow, from gate 0 to gate 1. -/
def site : State :=
  { State.reset with
    initPort := upPort 8
    svcPort := upPort 8
    sources := [(0, SourceEntry.strapManager), (1, { SourceEntry.reset with state := .member, limit := 2 })]
    domains := [(0, { DomainEntry.reset with valid := true, state := .opened, size := 4 })]
    streams := [(0, { StreamEntry.reset with
      valid := true, giveGate := 1, priority := 2, accessA := .full, selector := 1 })]
    gates := [(0, openGate 1), (1, openGate 1)]
    deadlines := [(1, 4)] }

/-- A packet of source 1 with tag 9 on the flow. -/
def flowPacket (kind : BitVec 4) (specific : Byte) (payload : List Byte) : Packet :=
  Packet.build kind 0 1 9 0 0 specific payload

/-- s with one packet in the initiator link's receive buffer. -/
def receiving (p : Packet) (s : State) : State := { s with initPort := { s.initPort with rx := [p] } }
/-- s with one packet in the service link's receive buffer. -/
def serving (p : Packet) (s : State) : State := { s with svcPort := { s.svcPort with rx := [p] } }

/-- A slot of the flow in a state. -/
def flowSlot (st : SlotState) : Slot :=
  { Slot.reset with
    state := st, source := 1, tag := 9, giveGate := 1, priority := 2, selector := 1, payloadLength := 3
    payload := if st = .held ∨ st = .laddered then [1, 2, 3] else []
    pages := if st = .held ∨ st = .laddered then 1 else 0
    giveOnCompletion := true
    completionExpected := st = .serving
    answer := if st = .answering then some (.close .drained) else if st = .lapsing then some (.close .lapsed) else none }

/-- The flow with slot 5 in a state, in its collection and the tag index. -/
def withSlot (st : SlotState) : State :=
  { (site.setSlot 5 (flowSlot st)).setTagged 1 9 (if st.indexed then some 5 else none) with
    sources := [(0, SourceEntry.strapManager),
      (1, { SourceEntry.reset with state := .member, limit := 2, outstanding := if st.indexed then 1 else 0 })]
    domains := [(0, { DomainEntry.reset with
      valid := true, state := .opened, size := 4, active := if st.counted then 1 else 0 })]
    gates := [(0, { openGate 0 with holdQueue := if st = .held then [5] else [], references := 1 }),
      (1, { openGate 1 with references := 1 })]
    ladder := if st = .laddered then [(2, [5])] else []
    answers := if st = .answering ∨ st = .lapsing then [5] else []
    freePages := if st = .held ∨ st = .laddered then 4095 else 4096
    txPages := if st = .held ∨ st = .laddered then 1 else 0 }

/-- A batch of source 0 whose next position holds one record and then END. -/
def oneRecord (table index : Nat) (code : Byte) (value : List Byte) : Batch :=
  { source := 0, tag := 1, bytes := recordBytes table index code value ++ [0xFF], position := 1, offset := 0
    lastKey := none, stopped := false, entries := [], applied := 0 }

/-- s with the engine applying a batch. -/
def applying (b : Batch) (s : State) : State := { s with engine := .applying, batches := [b] }

/-- s with the engine at one record. -/
def atRecord (table index : Nat) (code : Byte) (value : List Byte) (s : State) : State :=
  applying (oneRecord table index code value) s

/-- The premise of the record statements is met by every record whose fields fit. -/
theorem atRecord_holds (table index : Nat) (code : Byte) (value : List Byte) (s : State) (ht : table < 255)
    (hi : index < 65536) (hv : value.length ≤ 16) :
    AtRecord (atRecord table index code value s) (oneRecord table index code value) table index code value :=
  ⟨rfl, ⟨[], rfl⟩, (by decide : (1 : Nat) < 32), ht, hi, hv, ⟨[0xFF], rfl⟩, nofun⟩

/-- The last entry of the head batch's report so far. -/
def lastEntry (s : State) : Option ReportEntry := (s.batches.head?.bind (fun b => b.entries.getLast?))

/-! ## Ill-formed commands -/

theorem test_up_without_credit_is_ill_formed : (Instr.up .initiator 0 3).wellFormed = false := by decide
theorem test_up_with_credit_is_well_formed : (Instr.up .initiator 1 3).wellFormed = true := by decide
theorem test_oversized_packet_is_ill_formed :
    (Instr.packetReceived .service { flowPacket 1 0 [] with payload := List.replicate 545 0 }).wellFormed = false := by decide +kernel
theorem test_longest_packet_is_well_formed :
    (Instr.packetReceived .service { flowPacket 1 0 [] with payload := List.replicate 544 0 }).wellFormed = true := by decide +kernel
theorem test_corrupt_limit_is_ill_formed :
    (Instr.checkCodeMismatch (.source 0 (some { state := .member, cls := .a, limit := 65536 }))).wellFormed = false := by decide
theorem test_corrupt_base_is_ill_formed : (Instr.checkCodeMismatch
    (.domain 0 (some { valid := true, state := .opened, base := 65536, size := 1, mode := none }))).wellFormed = false := by decide
theorem test_corrupt_size_is_ill_formed : (Instr.checkCodeMismatch
    (.domain 0 (some { valid := true, state := .opened, base := 0, size := 65536, mode := none }))).wellFormed = false := by decide
theorem test_corrupt_fields_are_well_formed : (Instr.checkCodeMismatch
    (.domain 0 (some { valid := true, state := .opened, base := 65535, size := 65535, mode := none }))).wellFormed = true := by decide

/-! ## The host's two words -/

theorem test_no_word_spells_a_command : decodeTableWord 8 0 = none := rfl
theorem test_withFetchWord_leaves_the_state : State.reset.withFetchWord 8 0 = State.reset := rfl
theorem test_step_idles : step State.reset = .next State.reset := rfl

/-! ## Each command on a small state -/

theorem test_transact_is_laddered :
    (after .transact (receiving (flowPacket 1 0 [1, 2, 3]) site)).level 2 = [0] ∧
    ((after .transact (receiving (flowPacket 1 0 [1, 2, 3]) site)).gate 0).allowance = 0 := by decide +kernel
theorem test_transact_is_held :
    ((after .transact (receiving (flowPacket 1 0 []) (site.setGate 0 (openGate 0)))).gate 0).holdQueue = [0] := by decide +kernel
theorem test_await_is_cleared :
    ((after .await (receiving (flowPacket 2 0 []) site)).slot 0).answer = some .clear := by decide +kernel
theorem test_await_wrong_kind_waits :
    after .await (receiving (flowPacket 1 0 []) site) = receiving (flowPacket 1 0 []) site := by decide +kernel
theorem test_post_reports_surplus :
    (after .post (receiving (flowPacket 3 3 []) site)).brief.map BriefAnswer.body = [.ack 1 2] := by decide +kernel
theorem test_withdraw_closes_held_slot :
    ((after .withdraw (receiving (Packet.build 4 0 1 0 0 0 9 []) (withSlot .held))).slot 5).answer =
      some (.close .withdrawn) := by decide +kernel
theorem test_withdraw_not_found :
    (after .withdraw (receiving (Packet.build 4 0 1 0 0 0 8 []) (withSlot .held))).brief.map BriefAnswer.body =
      [.refuse .notFound] := by decide +kernel
theorem test_manage_queues_batch :
    (after .manage (receiving (Packet.build 5 0 0 6 0 0 0 [0xFF]) site)).batches.map Batch.bytes = [[0xFF]] := by decide +kernel
theorem test_manage_of_member_is_refused :
    (after .manage (receiving (Packet.build 5 0 1 6 0 0 0 [0xFF]) site)).brief.map BriefAnswer.body =
      [.refuse .notManager] := by decide +kernel
theorem test_forward_sends_payload :
    (after .forward (withSlot .laddered)).svcPort.tx = [Packet.build 1 0 1 5 0 0 0 [1, 2, 3]] ∧
    ((after .forward (withSlot .laddered)).slot 5).serviceDeadline = some { start := 0, units := 4 } := by decide +kernel
theorem test_complete_answers :
    ((after .complete (serving (Packet.build 2 0 0 5 0 0 33 [7]) (withSlot .serving))).slot 5).answer =
      some (.result 33 [7] 1) := by decide +kernel
theorem test_complete_stray :
    ((after .complete (serving (Packet.build 2 0 0 6 0 0 33 [7]) (withSlot .serving))).cond .strayCompletion).detail =
      some 6 := by decide +kernel
theorem test_service_lapse :
    ((after (.serviceLapse 5) { (withSlot .serving).setSlot 5 { flowSlot .serving with
      serviceDeadline := some { start := 0xFFFFFFF0, units := 4 } } with deviceTime := 48 }).slot 5).state = .lapsing := by decide +kernel
theorem test_hold_expiry :
    ((after (.holdExpiry 5) { (withSlot .held).setSlot 5 { flowSlot .held with
      holdDeadline := some { start := 0, units := 4 } } with deviceTime := 64 }).slot 5).answer = some (.close .expired) := by decide +kernel
theorem test_hold_expiry_not_due :
    ((after (.holdExpiry 5) { (withSlot .held).setSlot 5 { flowSlot .held with
      holdDeadline := some { start := 0, units := 4 } } with deviceTime := 63 }).slot 5).state = .held := by decide +kernel
theorem test_outbound_close_frees_slot :
    (after .outboundSending (withSlot .answering)).initPort.tx = [Packet.build 10 0 1 9 0 0 3 []] ∧
    (after .outboundSending (withSlot .answering)).slot 5 = Slot.reset := by decide +kernel
theorem test_forward_credit_return :
    (after .forwardCreditReturn { site with svcPort := upPort 7 }).svcPort.credit = 8 ∧
    (after .forwardCreditReturn site).svcPort.credit = 8 := by decide +kernel
theorem test_transmit_credit_return :
    (after .transmitCreditReturn { site with initPort := upPort 0 }).initPort.credit = 1 := by decide +kernel
theorem test_packet_received :
    (after (.packetReceived .initiator (flowPacket 2 0 [])) site).initPort.rx = [flowPacket 2 0 []] := by decide +kernel
theorem test_signalling_detected : (after (.signallingDetected .service) State.reset).svcPort.link = .training := by decide +kernel
theorem test_up_announces :
    (after (.up .initiator 5 9) { State.reset with initPort := { Port.reset with link := .training } }).initPort =
      { Port.reset with
        link := .up, session := 9, announced := true, credit := 5, creditLimit := 5, partnerCredit := 16
        signals := [.advertise 16 1] } := by decide +kernel
theorem test_up_new_session_drops_slots :
    (after (.up .initiator 5 9) { withSlot .laddered with initPort := { upPort 8 with link := .training } }).slots = [] ∧
    ((after (.up .initiator 5 9) { withSlot .laddered with initPort := { upPort 8 with link := .training } }).gate 0).allowance =
      1 := by decide +kernel
/-- Slots 5 and 6 LADDERED on gates 1 and 0, both gates at their ceilings, and a BUFFER LOW pending. -/
def twoSurplus : State :=
  { ((withSlot .laddered).setSlot 5 { flowSlot .laddered with takeGate := 1 }).setSlot 6 (flowSlot .laddered) with
    gates := [(0, { openGate 2 with references := 2 }), (1, { openGate 2 with references := 2 })]
    notices := [.bufferLow]
    initPort := { upPort 8 with link := .training } }
theorem test_up_new_session_orders_notices :
    (after (.up .initiator 5 9) twoSurplus).notices = [.bufferLow, .surplusGive, .initiatorLinkChange] ∧
    (after (.up .initiator 5 9) twoSurplus).cond .surplusGive =
      { flag := true, masked := false, count := 2, detail := some 1 } := by decide +kernel
theorem test_training_failure :
    (after (.trainingFailure .service) { site with svcPort := { upPort 8 with link := .training } }).svcPort.link = .down := by decide +kernel
theorem test_link_loss : (after (.linkLoss .initiator) site).notices = [.initiatorLinkChange] := by decide +kernel
theorem test_retrain_request : (after (.retrainRequest .initiator) site).initPort.link = .training := by decide +kernel
theorem test_reset_assert : (after .resetAssert site).gates = [] ∧ (after .resetAssert site).resetAsserted = true := by decide +kernel
theorem test_reset_release : (after (.resetRelease 7) (after .resetAssert site)).source 7 = SourceEntry.strapManager := by decide +kernel
theorem test_check_code_mismatch : ((after (.checkCodeMismatch (.source 1 none)) site).source 1).codeMatches = false := by decide +kernel
theorem test_device_time_wraps : (after .deviceTimeTick { site with deviceTime := 0xFFFFFFFF }).deviceTime = 0 := by decide +kernel
theorem test_batch_begin :
    (after .batchBegin { site with batches := [oneRecord 7 0 9 []] }).engine = .applying := by decide +kernel
theorem test_source_write :
    ((after .sourceWrite (atRecord 1 2 2 [1, 1, 0, 9] site)).source 2).toSourceContents =
      { state := .member, cls := .b, limit := 9 } := by decide +kernel
theorem test_source_write_last_manager :
    lastEntry (after .sourceWrite (atRecord 1 0 2 [1, 1, 0, 9] site)) = some { status := .lastManager, data := [] } := by decide +kernel
theorem test_source_read :
    lastEntry (after .sourceRead (atRecord 1 1 1 [] site)) = some { status := .done, data := [1, 0, 0, 2, 0, 0] } := by decide +kernel
theorem test_domain_write_overlap :
    lastEntry (after .domainWrite (atRecord 2 1 2 [1, 0, 3, 0, 1] site)) = some { status := .overlap, data := [] } := by decide +kernel
theorem test_domain_write_adjacent :
    ((after .domainWrite (atRecord 2 1 2 [1, 0, 4, 0, 1] site)).domain 1).base = 4 := by decide +kernel
theorem test_domain_read :
    lastEntry (after .domainRead (atRecord 2 0 1 [] site)) =
      some { status := .done, data := [0, 1, 0, 0, 0, 4, 0, 0, 0] } := by decide +kernel
theorem test_drain_of_idle_domain :
    ((after .drain (atRecord 2 0 4 [1] site)).domain 0).state = .closed := by decide +kernel
theorem test_drain_flushes :
    ((after .drain (atRecord 2 0 4 [2] (withSlot .laddered))).slot 5).answer = some (.close .drained) ∧
    ((after .drain (atRecord 2 0 4 [2] (withSlot .laddered))).gate 0).allowance = 1 := by decide +kernel
theorem test_reopen :
    ((after .reopen (atRecord 2 0 5 [] (after .drain (atRecord 2 0 4 [1] site)))).domain 0).state = .opened := by decide +kernel
theorem test_stream_write :
    ((after .streamWrite (atRecord 3 2047 2 [1, 2, 3, 7, 4, 0, 15] site)).stream 2047).priority = 7 := by decide +kernel
theorem test_stream_read :
    lastEntry (after .streamRead (atRecord 3 0 1 [] site)) =
      some { status := .done, data := [1, 0, 1, 2, 4, 0, 1, 0] } := by decide +kernel
theorem test_gate_write :
    ((after .gateWrite (atRecord 4 9 2 [1, 0x0F, 0xFF, 1, 3] site)).gate 9).allowance = 4095 := by decide +kernel
theorem test_gate_read :
    lastEntry (after .gateRead (atRecord 4 0 1 [2] (withSlot .held))) =
      some { status := .done, data := [0, 0, 0, 0, 1, 0, 5, 2] } := by decide +kernel
theorem test_set_allowance_releases :
    (after .setAllowance (atRecord 4 0 3 [0, 2] (withSlot .held))).level 2 = [5] ∧
    ((after .setAllowance (atRecord 4 0 3 [0, 2] (withSlot .held))).gate 0).allowance = 1 := by decide +kernel
theorem test_deadline_write :
    (after .deadlineWrite (atRecord 5 15 2 [0x12, 0x34] site)).deadline 15 = 0x1234 := by decide +kernel
theorem test_deadline_read :
    lastEntry (after .deadlineRead (atRecord 5 1 1 [] site)) = some { status := .done, data := [0, 4] } := by decide +kernel
theorem test_condition_write :
    ((after .conditionWrite (atRecord 6 10 2 [1] site)).cond .privilegeChange).masked = true := by decide +kernel
theorem test_condition_read :
    lastEntry (after .conditionRead (atRecord 6 0 1 [] (after (.linkLoss .initiator) site))) =
      some { status := .done, data := [1, 0, 0, 1, 0, 7, 0, 0] } := by decide +kernel
theorem test_acknowledge :
    (after .acknowledge (atRecord 6 0 7 [] (after (.linkLoss .initiator) site))).notices = [] := by decide +kernel
theorem test_device_write :
    (after .deviceWrite (atRecord 7 0 2 [8, 0, 3, 0xFF, 0, 1] site)).reserve = 2048 := by decide +kernel
theorem test_device_read :
    lastEntry (after .deviceRead (atRecord 7 0 1 [1] (withSlot .laddered))) =
      some { status := .done, data := [3, 0xFF, 0x0F, 0xFF, 0, 1, 0, 0] } := by decide +kernel
theorem test_dispatch_pauses : (after .dispatch (atRecord 7 0 8 [0] site)).dispatch = .paused := by decide +kernel
theorem test_restart_stops_batch :
    (after .restart (atRecord 7 0 9 [] (withSlot .laddered))).reports.map (fun r => r.entries.map ReportEntry.status) =
      [[.done, .notApplied]] ∧ (after .restart (atRecord 7 0 9 [] (withSlot .laddered))).slots = [] := by decide +kernel
theorem test_slot_read :
    lastEntry (after .slotRead (atRecord 8 5 1 [] (withSlot .laddered))) =
      some { status := .done, data := [2, 0, 1, 9, 0, 0, 0, 0, 1, 2, 1, 1] } := by decide +kernel
theorem test_slot_write_is_refused :
    lastEntry (after .slotWrite (atRecord 8 5 2 [] site)) = some { status := .wrongState, data := [] } := by decide +kernel
theorem test_reclaim :
    (after .reclaim (atRecord 8 5 6 [1] (withSlot .lapsed))).slots = [] ∧
    ((after .reclaim (atRecord 8 5 6 [1] (withSlot .lapsed))).gate 1).allowance = 2 := by decide +kernel
theorem test_end_reports :
    (after .endMarker (applying { oneRecord 1 0 1 [] with bytes := [0xFF] } site)).reports.map (fun r => r.entries.map ReportEntry.status) =
      [[.done]] := by decide +kernel
theorem test_bad_key :
    lastEntry (after .badKey (atRecord 1 64 1 [] site)) = some { status := .badKey, data := [] } := by decide +kernel
theorem test_out_of_order :
    (after .badKey (applying { oneRecord 1 0 1 [] with lastKey := some (1, 1) } site)).reports.map (fun r => r.entries.map ReportEntry.status) =
      [[.outOfOrder, .notApplied]] := by decide +kernel

/-! ## A state that meets all laws, with a slot in service -/

/-- Slot 5 in service, both links in TRAINING after an UP, and the engine at a RESTART. -/
def lawful : State :=
  applying (oneRecord 7 0 9 []) { withSlot .serving with
    initPort := { upPort 8 with link := .training }
    svcPort := { upPort 8 with link := .training } }

theorem slot_lawful (n : SlotNo) : lawful.slot n = if n = 5 then flowSlot .serving else Slot.reset := by
  have h : lawful.slots = [(5, flowSlot .serving)] := by decide +kernel
  unfold State.slot
  rw [h]
  by_cases hn : n = 5
  · subst hn; rfl
  · have : ¬ 5 = n.toNat := fun h' => hn (BitVec.eq_of_toNat_eq h'.symm)
    rw [if_neg hn]; simp [Table.get, this]

theorem gate_lawful (g : GateNo) : lawful.gate g =
    if g = 0 then { openGate 0 with references := 1 } else if g = 1 then { openGate 1 with references := 1 } else Gate.reset := by
  unfold State.gate
  show Table.get Gate.reset [(0, { openGate 0 with holdQueue := [], references := 1 }), (1, { openGate 1 with references := 1 })] _ = _
  by_cases h0 : g = 0
  · subst h0; rfl
  · by_cases h1 : g = 1
    · subst h1; rfl
    · have e0 : ¬ 0 = g.toNat := fun h' => h0 (BitVec.eq_of_toNat_eq h'.symm)
      have e1 : ¬ 1 = g.toNat := fun h' => h1 (BitVec.eq_of_toNat_eq h'.symm)
      rw [if_neg h0, if_neg h1]; simp [Table.get, e0, e1]

theorem queue_lawful (g : GateNo) : (lawful.gate g).holdQueue = [] := by
  rw [gate_lawful]; split
  · rfl
  · split <;> rfl

theorem tagged_lawful (src : SourceNo) (tag : Byte) :
    lawful.tagged src tag = if src = 1 ∧ tag = 9 then some 5 else none := by
  have h : lawful.tagIndex = [(265, some 5)] := by decide +kernel
  unfold State.tagged
  rw [h]
  have hk : tagKey src tag = src.toNat * 256 + tag.toNat := by
    unfold tagKey
    rw [BitVec.toNat_append, ← Nat.shiftLeft_add_eq_or_of_lt tag.isLt, Nat.shiftLeft_eq]
  have ht := tag.isLt
  by_cases hs : src = 1 ∧ tag = 9
  · obtain ⟨rfl, rfl⟩ := hs; rfl
  · have : ¬ 265 = tagKey src tag := by
      rw [hk]
      intro h'
      exact hs ⟨BitVec.eq_of_toNat_eq (by simp; omega), BitVec.eq_of_toNat_eq (by simp; omega)⟩
    rw [if_neg hs]; simp [Table.get, this]

theorem lawful_tables : TablesCanonical lawful := by
  refine ⟨⟨?_, ?_⟩, ⟨?_, ?_⟩, ⟨?_, ?_⟩, ⟨?_, ?_⟩, ⟨?_, ?_⟩, ⟨?_, ?_⟩, ⟨?_, ?_⟩, ⟨?_, ?_⟩, ⟨?_, ?_⟩⟩ <;> decide +kernel

theorem lawful_gates : GatesLawful lawful := by
  intro g
  rw [gate_lawful]
  split
  · exact ⟨by decide, by decide, by decide, by decide⟩
  · split <;> exact ⟨by decide, by decide, by decide, by decide⟩

theorem lawful_slots : SlotsShaped lawful := by
  intro n
  rw [slot_lawful]
  split <;> constructor <;> first | decide | nofun

theorem lawful_collected : Collected lawful := by
  refine ⟨fun n g => ?_, fun n l => ?_, fun n => ?_, fun g => ?_, fun l => ?_, by decide +kernel⟩
  · rw [queue_lawful, slot_lawful]; split <;> simp [flowSlot, Slot.reset]
  · show n ∈ Table.get [] [] _ ↔ _
    rw [slot_lawful]; split <;> simp [flowSlot, Slot.reset, Table.get]
  · show n ∈ [] ↔ _
    rw [slot_lawful]; split <;> simp [flowSlot, Slot.reset]
  · rw [queue_lawful]; exact List.nodup_nil
  · exact List.nodup_nil

theorem lawful_tags : TagsIndexed lawful := by
  intro src tag n
  rw [tagged_lawful, slot_lawful]
  by_cases hn : n = 5
  · subst hn; simp [flowSlot, SlotState.indexed, eq_comm]
  · rw [if_neg hn]; simp [Slot.reset, SlotState.indexed]; intro _ _ h; exact hn h.symm

theorem lawful_counts : Counted lawful := by
  refine ⟨by decide +kernel, by decide +kernel, fun g => ?_⟩
  have h : lawful.slots = [(5, flowSlot .serving)] := by decide +kernel
  rw [gate_lawful, h]
  by_cases h0 : g = 0
  · subst h0; rfl
  · by_cases h1 : g = 1
    · subst h1; rfl
    · rw [if_neg h0, if_neg h1]
      have e0 : ¬ (flowSlot .serving).takeGate = g := fun h' => h0 h'.symm
      have e1 : ¬ (flowSlot .serving).giveGate = g := fun h' => h1 h'.symm
      simp [Slot.claimsOn, e0, e1, Gate.reset]

theorem lawful_pages : PagesKept lawful := by
  refine ⟨?_, ?_, ?_, ?_, ?_⟩ <;> decide +kernel

theorem lawful_engine : EngineLawful lawful := by
  refine ⟨fun _ => ⟨by decide, _, [], rfl, ?_, nofun⟩, nofun⟩
  exact ⟨by decide, by decide, rfl, rfl, rfl, by decide⟩

theorem lawful_ports : PortsLawful lawful := by
  refine ⟨⟨by decide, nofun, fun _ => rfl⟩, ⟨by decide, nofun, fun _ => rfl⟩, nofun⟩

theorem lawful_conditions : ConditionsLawful lawful := by
  refine ⟨fun k => ?_, by decide, nofun⟩
  show CondEntry.Lawful CondEntry.reset
  exact ⟨by decide, by decide, by decide⟩

theorem lawful_domains : DomainsLawful lawful := by
  constructor <;> decide +kernel

/-- A state with a slot in service meets every law. -/
theorem lawful_laws : DeviceLaws lawful where
  canonical := lawful_tables
  gates := lawful_gates
  shaped := lawful_slots
  collected := lawful_collected
  ordered := fun g => by rw [queue_lawful]; exact List.Pairwise.nil
  tags := lawful_tags
  counted := lawful_counts
  pages := lawful_pages
  queues := ⟨by decide, by decide, by decide, by decide, by decide, by decide⟩
  engine := lawful_engine
  ports := lawful_ports
  conditions := lawful_conditions
  target := fun _ => rfl
  entryZero := rfl
  domains := lawful_domains

/-! ## Hypotheses of the obligations: a state and operands that meet them together, for each clause -/

theorem witness_ResetPinDropsAndReleases : (after .resetAssert site).resetAsserted = true ∧ site.resetAsserted = false := by
  decide +kernel

theorem witness_LinkStatesMove (p : PortId) :
    ((State.reset.port p).link = .down ∧ State.reset.resetAsserted = false) ∧
    ((site.port p).link ≠ .down ∨ site.resetAsserted = true) ∧ (after .resetAssert site).resetAsserted = true ∧
    (lawful.port p).link = .training ∧ (site.port p).link ≠ .training ∧ (site.port p).link = .up ∧
    (State.reset.port p).link ≠ .up := by cases p <;> decide +kernel

/-- Both ports in TRAINING before the first UP. -/
def firstTraining : State :=
  { State.reset with initPort := { Port.reset with link := .training }, svcPort := { Port.reset with link := .training } }

theorem witness_UpIsFirstOrRetrain (p : PortId) :
    ((firstTraining.port p).link = .training ∧ (1 : Byte) ≠ 0 ∧ (firstTraining.port p).announced = false) ∧
    ((lawful.port p).link = .training ∧ (255 : Byte) ≠ 0 ∧ (lawful.port p).announced = true ∧
      (7 : Byte) = (lawful.port p).session) ∧ (site.port p).link ≠ .training := by cases p <;> decide +kernel

theorem witness_InitiatorSessionChange :
    DeviceLaws lawful ∧ lawful.initPort.link = .training ∧ lawful.initPort.announced = true ∧ (1 : Byte) ≠ 0 ∧
      (8 : Byte) ≠ lawful.initPort.session := ⟨lawful_laws, by decide +kernel⟩

theorem witness_ServiceSessionChange :
    DeviceLaws lawful ∧ lawful.svcPort.link = .training ∧ lawful.svcPort.announced = true ∧ (255 : Byte) ≠ 0 ∧
      (8 : Byte) ≠ lawful.svcPort.session := ⟨lawful_laws, by decide +kernel⟩

/-- Both ports UP with n packets received and a send credit. -/
def received (n credit : Nat) : State :=
  { State.reset with
    initPort := { upPort credit with rx := List.replicate n (flowPacket 2 0 []) }
    svcPort := { upPort credit with rx := List.replicate n (flowPacket 2 0 []) } }

theorem witness_LinkDeliversPacketsAndCredits (p : PortId) :
    (((received 15 7).port p).link = .up ∧ ((received 15 7).port p).rx.length < 16) ∧
    16 ≤ ((received 16 8).port p).rx.length ∧ ((received 15 7).port p).credit < ((received 15 7).port p).creditLimit ∧
    ((received 16 8).port p).creditLimit ≤ ((received 16 8).port p).credit ∧ (State.reset.port p).link ≠ .up := by
  cases p <;> decide +kernel

theorem witness_CheckCodeMismatchFaultsOneEntry :
    site.resetAsserted = false ∧ (after .resetAssert site).resetAsserted = true := by decide +kernel
theorem witness_DeviceTimeTicks :
    lawful.resetAsserted = false ∧ (after .resetAssert lawful).resetAsserted = true := by decide +kernel

theorem witness_MalformedByKind :
    (flowPacket 0 0 []).kindCode = 0 ∧ 6 ≤ (flowPacket 6 0 []).kindCode.toNat ∧ 6 ≤ (flowPacket 15 0 []).kindCode.toNat ∧
    ∀ k : InKind, (flowPacket k.code 0 []).kindCode = k.code := by
  refine ⟨by decide, by decide, by decide, fun k => ?_⟩
  cases k <;> decide

/-- No reason stands before the first check. -/
theorem reasonValue_pos (r : Reason) : ¬ (reasonValue r).toNat < 1 := by cases r <;> decide

theorem witness_FirstFailedCheckRefuses_first :
    (receiving (flowPacket 1 1 []) site).initPort.rx = [flowPacket 1 1 []] ∧
    (receiving (flowPacket 1 1 []) site).brief.length < 32 ∧ (flowPacket 1 1 []).kindCode = InKind.code .transact ∧
    CheckFails .transact (flowPacket 1 1 []) (receiving (flowPacket 1 1 []) site) .malformed ∧
    ∀ r', (reasonValue r').toNat < (reasonValue .malformed).toNat →
      ¬ CheckFails .transact (flowPacket 1 1 []) (receiving (flowPacket 1 1 []) site) r' :=
  ⟨rfl, by decide, by decide, (by decide : malformed _ = true), fun r' h => absurd h (reasonValue_pos r')⟩

/-- A full pool of pages: one page short of what a payload of three bytes needs. -/
def noPages : State := receiving (flowPacket 1 0 [1, 2, 3]) { site with freePages := 512, txPages := 3584 }

theorem witness_FirstFailedCheckRefuses_last :
    noPages.initPort.rx = [flowPacket 1 0 [1, 2, 3]] ∧ noPages.brief.length < 32 ∧
    (flowPacket 1 0 [1, 2, 3]).kindCode = InKind.code .transact ∧
    CheckFails .transact (flowPacket 1 0 [1, 2, 3]) noPages .noBuffer ∧
    ∀ r', (reasonValue r').toNat < (reasonValue .noBuffer).toNat →
      ¬ CheckFails .transact (flowPacket 1 0 [1, 2, 3]) noPages r' := by
  refine ⟨rfl, by decide, by decide, ?_, fun r' h => ?_⟩
  · unfold CheckFails; decide +kernel
  · cases r' <;> first
      | exact absurd h (by decide)
      | (unfold CheckFails; decide +kernel)

theorem witness_FirstFailedCheckRefuses_unknown_kind :
    CheckFails .manage (flowPacket 0 0 []) (receiving (flowPacket 0 0 []) site) .malformed ∧
    ∀ k' : InKind, (flowPacket 0 0 []).kindCode ≠ k'.code := by
  refine ⟨(by decide : malformed _ = true), fun k' => ?_⟩
  cases k' <;> decide

/-- The flow's packet with everything open: gate 0 with an allowance, and pages up to the bound. -/
def openFlow (kind : BitVec 4) (specific : Byte) (payload : List Byte) (allowance : Nat) : State :=
  receiving (flowPacket kind specific payload) { site.setGate 0 (openGate allowance) with freePages := 513, txPages := 3583 }

theorem witness_TransactGrantedAtOnce :
    Oldest .transact (flowPacket 1 0 [1, 2, 3]) (openFlow 1 0 [1, 2, 3] 1) ∧
    FlowOpen .transact (flowPacket 1 0 [1, 2, 3]) (openFlow 1 0 [1, 2, 3] 1) ∧
    SlotFree (flowPacket 1 0 [1, 2, 3]) 0 (openFlow 1 0 [1, 2, 3] 1) ∧
    0 < ((openFlow 1 0 [1, 2, 3] 1).gate (flowEntry (openFlow 1 0 [1, 2, 3] 1) (flowPacket 1 0 [1, 2, 3])).takeGate).allowance := by
  refine ⟨⟨⟨[], rfl⟩, ?_, ?_, ?_⟩, ?_, ⟨?_, ?_, ?_, ⟨?_, fun m h => absurd h (Nat.not_lt_zero _)⟩, ?_⟩, ?_⟩
  all_goals first | decide +kernel | (constructor <;> decide +kernel)

theorem witness_AwaitGrantedAtOnce :
    Oldest .await (flowPacket 2 0 []) (openFlow 2 0 [] 1) ∧ FlowOpen .await (flowPacket 2 0 []) (openFlow 2 0 [] 1) ∧
    SlotFree (flowPacket 2 0 []) 0 (openFlow 2 0 [] 1) ∧
    0 < ((openFlow 2 0 [] 1).gate (flowEntry (openFlow 2 0 [] 1) (flowPacket 2 0 [])).takeGate).allowance := by
  refine ⟨⟨⟨[], rfl⟩, ?_, ?_, ?_⟩, ?_, ⟨?_, ?_, ?_, ⟨?_, fun m h => absurd h (Nat.not_lt_zero _)⟩, ?_⟩, ?_⟩
  all_goals first | decide +kernel | (constructor <;> decide +kernel)

/-- The packet of a slot kind on the flow. -/
def kindPacket : SlotKind → Packet
  | .transact => flowPacket 1 0 [1, 2, 3]
  | .await => flowPacket 2 0 []

theorem witness_TakeWithoutUnitIsHeld (k : SlotKind) :
    Oldest k.inKind (kindPacket k) (receiving (kindPacket k) (site.setGate 0 (openGate 0))) ∧
    FlowOpen k.inKind (kindPacket k) (receiving (kindPacket k) (site.setGate 0 (openGate 0))) ∧
    SlotFree (kindPacket k) 0 (receiving (kindPacket k) (site.setGate 0 (openGate 0))) ∧
    ((receiving (kindPacket k) (site.setGate 0 (openGate 0))).gate
      (flowEntry (receiving (kindPacket k) (site.setGate 0 (openGate 0))) (kindPacket k)).takeGate).allowance = 0 := by
  cases k <;> refine ⟨⟨⟨[], rfl⟩, ?_, ?_, ?_⟩, ?_, ⟨?_, ?_, ?_, ⟨?_, fun m h => absurd h (Nat.not_lt_zero _)⟩, ?_⟩, ?_⟩
  all_goals first | decide +kernel | (constructor <;> decide +kernel)

theorem witness_PostGivesUnits :
    Oldest .post (flowPacket 3 16 []) (receiving (flowPacket 3 16 []) site) ∧
    FlowOpen .post (flowPacket 3 16 []) (receiving (flowPacket 3 16 []) site) := by
  refine ⟨⟨⟨[], rfl⟩, ?_, ?_, ?_⟩, ?_⟩
  all_goals first | decide +kernel | (constructor <;> decide +kernel)

/-- A WITHDRAW of source 1 for a tag. -/
def withdrawPacket (tag : Byte) : Packet := Packet.build 4 0 1 0 0 0 tag []

theorem witness_Withdraw (st : SlotState) :
    Oldest .withdraw (withdrawPacket 9) (receiving (withdrawPacket 9) (withSlot st)) ∧
    ((withSlot st).source (withdrawPacket 9).source).codeMatches = true ∧
    ((withSlot st).source (withdrawPacket 9).source).state ≠ .disabled ∧ ((withSlot st).slot 5).state = st ∧
    (st.indexed = true → (withSlot st).tagged (withdrawPacket 9).source (withdrawPacket 9).b7 = some 5) ∧
    (withSlot st).tagged (withdrawPacket 8).source (withdrawPacket 8).b7 = none := by
  refine ⟨⟨⟨[], rfl⟩, ?_, by decide, by decide⟩, ?_⟩
  all_goals cases st <;> decide +kernel

theorem witness_ManageJoinsBatchQueue :
    Oldest .manage (Packet.build 5 0 0 6 0 0 0 [0xFF])
      (receiving (Packet.build 5 0 0 6 0 0 0 [0xFF]) { site with batches := List.replicate 3 (oneRecord 7 0 9 []) }) ∧
    (site.source (Packet.build 5 0 0 6 0 0 0 [0xFF]).source).codeMatches = true ∧
    (site.source (Packet.build 5 0 0 6 0 0 0 [0xFF]).source).state = .manager ∧
    (List.replicate 3 (oneRecord 7 0 9 [])).length < 4 := by
  refine ⟨⟨⟨[], rfl⟩, ?_, ?_, ?_⟩, ?_⟩ <;> decide +kernel

/-- A COMPLETE for tracking tag 5 with a payload. -/
def completePacket (payload : List Byte) : Packet := Packet.build 2 0 0 5 0 0 33 payload

theorem isComplete_packet (payload : List Byte) (h : payload.length ≤ 512) : IsComplete (completePacket payload) := by
  have hl : (completePacket payload).lengthField = payload.length := by
    show readTwo (BitVec.ofNat 8 (payload.length / 256)) (BitVec.ofNat 8 payload.length) = _
    exact readTwo_twoBytes (by omega)
  exact ⟨rfl, rfl, rfl, rfl, by omega, hl.symm⟩

theorem witness_BlockedUnitsWait :
    32 ≤ { site with brief := List.replicate 32 ⟨1, 9, 0, 0, .ack 1 0⟩ }.brief.length ∧ site.initPort.rx = [] ∧
    { site with dispatch := .paused }.dispatch = .paused ∧ State.reset.svcPort.link ≠ .up ∧
    { site with svcPort := upPort 0 }.svcPort.credit = 0 ∧ (∀ l, site.level l = []) ∧
    (IsComplete (completePacket [7]) ∧
      (serving (completePacket [7]) { withSlot .serving with freePages := 0 }).svcPort.rx = [completePacket [7]] ∧
      ((withSlot .serving).slot (completePacket [7]).trackingTag).state = .serving ∧
      { withSlot .serving with freePages := 0 }.freePages < ((completePacket [7]).payload.length + 63) / 64) ∧
    State.reset.initPort.link ≠ .up ∧ { site with initPort := upPort 0 }.initPort.credit = 0 ∧
    (site.notices = [] ∧ site.reports = [] ∧ site.brief = [] ∧ site.answers = []) :=
  ⟨by decide, rfl, rfl, by decide, rfl, fun _ => rfl, ⟨isComplete_packet _ (by decide), rfl, by decide +kernel, by decide⟩,
    by decide, rfl, rfl, rfl, rfl, rfl⟩

theorem witness_ForwardTakesHighestHead :
    (withSlot .laddered).dispatch = .run ∧ (withSlot .laddered).svcPort.link = .up ∧
    1 ≤ (withSlot .laddered).svcPort.credit ∧ (withSlot .laddered).level 2 = [5] ∧
    (∀ m : Level, m.toNat < (2 : Level).toNat → (withSlot .laddered).level m = []) ∧
    ((withSlot .laddered).slot 5).priority = 2 := by decide +kernel

theorem witness_CompleteEndsService :
    IsComplete (completePacket [7]) ∧
    (serving (completePacket [7]) { withSlot .serving with freePages := 1 }).svcPort.rx = [completePacket [7]] ∧
    ((withSlot .serving).slot (completePacket [7]).trackingTag).state = .serving ∧
    ((completePacket [7]).payload.length + 63) / 64 ≤ { withSlot .serving with freePages := 1 }.freePages :=
  ⟨isComplete_packet _ (by decide), rfl, by decide +kernel, by decide⟩

theorem witness_LateAndStrayCompletes :
    IsComplete (completePacket []) ∧
    (serving (completePacket []) (withSlot .lapsed)).svcPort.rx = [completePacket []] ∧
    ((withSlot .lapsed).slot (completePacket []).trackingTag).state = .lapsed ∧
    ¬ IsComplete { completePacket [] with b1 := 1 } ∧
    (((withSlot .held).slot (completePacket []).trackingTag).state ≠ .serving ∧
      ((withSlot .held).slot (completePacket []).trackingTag).state ≠ .lapsed) :=
  ⟨isComplete_packet _ (by decide), rfl, by decide +kernel, fun h => absurd h.source (by decide), by decide +kernel⟩

/-- Slot 5 with a service deadline of four units from 0xFFFFFFF0, at a device time. -/
def servingSince (now : Time) : State :=
  { (withSlot .serving).setSlot 5 { flowSlot .serving with serviceDeadline := some { start := 0xFFFFFFF0, units := 4 } } with
    deviceTime := now }
/-- Slot 5 with a hold deadline of four units from 0xFFFFFFF0, at a device time. -/
def heldSince (now : Time) : State :=
  { (withSlot .held).setSlot 5 { flowSlot .held with holdDeadline := some { start := 0xFFFFFFF0, units := 4 } } with
    deviceTime := now }

theorem witness_ServiceDeadlineLapses :
    (((servingSince 48).slot 5).state = .serving ∧ ((servingSince 48).slot 5).serviceDeadline = some ⟨0xFFFFFFF0, 4⟩ ∧
      (4 : BitVec 16).toNat * 16 ≤ ((servingSince 48).deviceTime - 0xFFFFFFF0).toNat) ∧
    (((servingSince 47).slot 5).serviceDeadline = some ⟨0xFFFFFFF0, 4⟩ ∧
      ((servingSince 47).deviceTime - 0xFFFFFFF0).toNat < (4 : BitVec 16).toNat * 16) ∧
    ((withSlot .serving).slot 5).serviceDeadline = none ∧ ((withSlot .held).slot 5).state ≠ .serving := by decide +kernel

theorem witness_HoldDeadlineExpires :
    (((heldSince 48).slot 5).state = .held ∧ ((heldSince 48).slot 5).holdDeadline = some ⟨0xFFFFFFF0, 4⟩ ∧
      (4 : BitVec 16).toNat * 16 ≤ ((heldSince 48).deviceTime - 0xFFFFFFF0).toNat) ∧
    (((heldSince 47).slot 5).holdDeadline = some ⟨0xFFFFFFF0, 4⟩ ∧
      ((heldSince 47).deviceTime - 0xFFFFFFF0).toNat < (4 : BitVec 16).toNat * 16) ∧
    ((withSlot .held).slot 5).holdDeadline = none ∧ ((withSlot .serving).slot 5).state ≠ .held := by decide +kernel

/-- Something to send in each of the three queues, one slot answer waiting, and a run count. -/
def sending (notices : List CondKind) (reports : List Report) (brief : List BriefAnswer) (run : Nat) : State :=
  { withSlot .answering with notices := notices, reports := reports, brief := brief, runCount := run }

theorem witness_OutboundSendsByPreference :
    (sending [.tableFault] [⟨0, 1, 0, []⟩] [⟨1, 9, 0, 0, .ack 1 0⟩] 7).initPort.link = .up ∧
    1 ≤ (sending [.tableFault] [⟨0, 1, 0, []⟩] [⟨1, 9, 0, 0, .ack 1 0⟩] 7).initPort.credit ∧
    ¬ ((sending [.tableFault] [⟨0, 1, 0, []⟩] [⟨1, 9, 0, 0, .ack 1 0⟩] 7).runCount = 8 ∧
      (sending [.tableFault] [⟨0, 1, 0, []⟩] [⟨1, 9, 0, 0, .ack 1 0⟩] 7).answers ≠ []) ∧
    (sending [.tableFault] [⟨0, 1, 0, []⟩] [⟨1, 9, 0, 0, .ack 1 0⟩] 7).notices = [.tableFault] ∧
    ((sending [] [⟨0, 1, 0, []⟩] [] 7).notices = [] ∧ (sending [] [⟨0, 1, 0, []⟩] [] 7).reports = [⟨0, 1, 0, []⟩]) ∧
    ((sending [] [] [⟨1, 9, 0, 0, .ack 1 0⟩] 0).notices = [] ∧ (sending [] [] [⟨1, 9, 0, 0, .ack 1 0⟩] 0).reports = [] ∧
      (sending [] [] [⟨1, 9, 0, 0, .ack 1 0⟩] 0).brief = [⟨1, 9, 0, 0, .ack 1 0⟩]) := by decide +kernel

theorem witness_SlotAnswerFinishesSlot :
    ((sending [.tableFault] [] [] 8).initPort.link = .up ∧ 1 ≤ (sending [.tableFault] [] [] 8).initPort.credit ∧
      (sending [.tableFault] [] [] 8).answers = [5] ∧
      ((sending [.tableFault] [] [] 8).slot 5).answer = some (.close .drained) ∧
      (sending [.tableFault] [] [] 8).runCount = 8 ∧ ((sending [.tableFault] [] [] 8).slot 5).state ≠ .lapsing) ∧
    ((sending [] [] [] 0).notices = [] ∧ (sending [] [] [] 0).reports = [] ∧ (sending [] [] [] 0).brief = []) ∧
    ((withSlot .lapsing).answers = [5] ∧ ((withSlot .lapsing).slot 5).state = .lapsing ∧
      ((withSlot .lapsing).slot 5).completionExpected = false ∧
      (((withSlot .lapsing).setSlot 5 { flowSlot .lapsing with completionExpected := true }).slot 5).completionExpected = true) := by
  decide +kernel

theorem witness_BatchBegins :
    ({ site with batches := [oneRecord 7 0 9 []], reports := List.replicate 3 ⟨0, 1, 0, []⟩ }.engine = .idle ∧
      ({ site with reports := List.replicate 3 ⟨0, 1, 0, []⟩ } : State).reports.length < 4) ∧
    lawful.engine = .applying ∧ site.batches = [] ∧
    4 ≤ ({ site with reports := List.replicate 4 ⟨0, 1, 0, []⟩ } : State).reports.length := by decide +kernel

theorem witness_RecordBytesParse :
    254 < 255 ∧ 65535 < 65536 ∧ 31 < 32 ∧ (List.replicate 16 (0 : Byte)).length ≤ 16 ∧
    (∀ kind : RecordKind, ∃ code : Byte, code = (match kind with
        | .read => 1 | .write => 2 | .setAllowance => 3 | .drain => 4 | .reopen => 5 | .reclaim => 6 | .acknowledge => 7
        | .dispatch => 8 | .restart => 9)) ∧
    (0 : Byte) = 0 ∧ 10 ≤ (10 : Byte).toNat ∧ (8 : Byte) ≠ 0xFF ∧ ([0, 0, 1] : List Byte).length < 4 ∧ 16 < (17 : Byte).toNat ∧
    ([] : List Byte).length < (1 : Byte).toNat :=
  ⟨by decide, by decide, by decide, by decide, fun _ => ⟨_, rfl⟩, rfl, by decide, by decide, by decide, by decide, by decide⟩

/-- A batch whose next position holds some bytes. -/
def batchOf (bytes : List Byte) : Batch := { oneRecord 7 0 9 [] with bytes := bytes }

theorem witness_EndAndUnparsablePositions :
    (applying (batchOf [0xFF]) site).engine = .applying ∧ (applying (batchOf [0xFF]) site).batches = [batchOf [0xFF]] ∧
    findRecord (batchOf [0xFF]).position ((batchOf [0xFF]).bytes.drop (batchOf [0xFF]).offset) = .endMarker ∧
    findRecord (batchOf []).position ((batchOf []).bytes.drop (batchOf []).offset) = .missingEnd ∧
    findRecord (batchOf [1]).position ((batchOf [1]).bytes.drop (batchOf [1]).offset) = .malformed := by decide +kernel

theorem witness_BadKeyAndOutOfOrder :
    (AtRecord (atRecord 1 64 1 [] site) (oneRecord 1 64 1 []) 1 64 1 [] ∧ 1 ≤ (1 : Byte).toNat ∧ (1 : Byte).toNat ≤ 9 ∧
      keyTakes 1 64 1 = false) ∧
    (({ oneRecord 1 0 9 [] with lastKey := some (1, 1) } : Batch).bytes.drop 0 = recordBytes 1 0 9 [] ++ [0xFF] ∧
      (9 : Byte).toNat ≤ 9 ∧ (1 < 1 ∨ (1 = 1 ∧ 0 < 1)) ∧
      ({ oneRecord 1 0 9 [] with lastKey := some (1, 1) } : Batch).position < 32) :=
  ⟨⟨atRecord_holds 1 64 1 [] site (by decide) (by decide) (by decide), by decide, by decide, by decide⟩, by decide +kernel⟩

/-- A list whose length is no layout's equals no layout. -/
theorem ne_of_length {α : Type} {v w : List α} (h : v.length ≠ w.length) : v ≠ w := fun e => h (congrArg List.length e)

theorem witness_SourceWriteChecksAndStores :
    AtRecord (atRecord 1 2 2 (sourceValue ⟨.member, .b, 1024⟩) site) (oneRecord 1 2 2 (sourceValue ⟨.member, .b, 1024⟩)) 1
      (2 : SourceNo).toNat 2 (sourceValue ⟨.member, .b, 1024⟩) ∧
    ((site.source 2).state ≠ .manager ∧ (2 : SourceNo) ≠ site.noticeTarget) ∧
    ((site.source 0).state = .manager ∧
      ∀ j, j ≠ (0 : SourceNo) → (site.source j).codeMatches = false ∨ (site.source j).state ≠ .manager) ∧
    ((0 : SourceNo) = site.noticeTarget ∧
      (((site.setSource 1 { SourceEntry.reset with state := .manager }).source 1).codeMatches = true ∧
        ((site.setSource 1 { SourceEntry.reset with state := .manager }).source 1).state = .manager)) ∧
    (∀ c : SourceContents, c.limit ≤ 1024 → ([] : List Byte) ≠ sourceValue c) :=
  ⟨atRecord_holds 1 2 2 _ site (by decide) (by decide) (by decide), by decide +kernel, by decide +kernel, by decide +kernel,
    fun _ _ => ne_of_length (by simp [sourceValue])⟩

theorem witness_SourceReadReturnsViews :
    AtRecord (atRecord 1 1 1 [1] site) (oneRecord 1 1 1 [1]) 1 (1 : SourceNo).toNat 1 [1] ∧
    (site.source 1).codeMatches = true ∧ ((after (.checkCodeMismatch (.source 1 none)) site).source 1).codeMatches = false ∧
    (([2] : List Byte) ≠ [] ∧ ([2] : List Byte) ≠ [0] ∧ ([2] : List Byte) ≠ [1]) :=
  ⟨atRecord_holds 1 1 1 _ site (by decide) (by decide) (by decide), by decide +kernel⟩

/-- Domain 0 with its range at the store's end, closed or faulted. -/
def domainSite (e : DomainEntry) : State := site.setDomain 0 e

theorem witness_DomainWriteChecksAndStores :
    AtRecord (atRecord 2 1 2 (domainValue true 4 1024) site) (oneRecord 2 1 2 (domainValue true 4 1024)) 2
      (1 : DomainNo).toNat 2 (domainValue true 4 1024) ∧
    ((site.domain 0).codeMatches = true ∧ (site.domain 0).state ≠ .closed) ∧
    (((domainSite { DomainEntry.reset with codeMatches := false, active := 1 }).domain 0).codeMatches = false ∧
      0 < ((domainSite { DomainEntry.reset with codeMatches := false, active := 1 }).domain 0).active) ∧
    ((site.domain 1).codeMatches = true ∧ (site.domain 1).state = .closed) ∧
    (2048 < 1025 + 1024) ∧
    ((0 : DomainNo) ≠ 1 ∧ (site.domain 0).valid = true ∧ (3 ≤ 3 ∧ 3 < 3 + 1 ∧ (site.domain 0).base ≤ 3 ∧
      3 < (site.domain 0).base + (site.domain 0).size)) ∧
    (4 + 1024 ≤ 2048 ∧ ∀ e : DomainNo, e ≠ 1 → (site.domain e).valid = true →
      ¬ ∃ i, 4 ≤ i ∧ i < 4 + 1024 ∧ (site.domain e).base ≤ i ∧ i < (site.domain e).base + (site.domain e).size) ∧
    (∀ (valid : Bool) (base size : Nat), base ≤ 2047 → 1 ≤ size → size ≤ 1024 → ([] : List Byte) ≠ domainValue valid base size) := by
  refine ⟨atRecord_holds 2 1 2 _ site (by decide) (by decide) (by decide), by decide +kernel, by decide +kernel,
    by decide +kernel, by decide, by decide +kernel, ⟨by decide, fun e he hv => ?_⟩,
    fun _ _ _ _ _ _ => ne_of_length (by simp [domainValue])⟩
  have h0 : e = 0 := by revert e; decide +kernel
  subst h0
  have hs : (site.domain 0).base + (site.domain 0).size = 4 := by decide +kernel
  rintro ⟨i, h⟩
  omega

theorem witness_DomainReadAndReopen :
    AtRecord (atRecord 2 3 5 [] site) (oneRecord 2 3 5 []) 2 (3 : DomainNo).toNat 5 [] ∧
    AtRecord (atRecord 2 0 1 [] site) (oneRecord 2 0 1 []) 2 (0 : DomainNo).toNat 1 [] ∧ (site.domain 0).codeMatches = true ∧
    ((after (.checkCodeMismatch (.domain 0 none)) site).domain 0).codeMatches = false ∧ ([0] : List Byte) ≠ [] ∧
    (((domainSite { DomainEntry.reset with valid := true }).domain 0).valid = true ∧
      ((domainSite { DomainEntry.reset with valid := true }).domain 0).codeMatches = true ∧
      ((domainSite { DomainEntry.reset with valid := true }).domain 0).state = .closed) ∧
    (site.domain 0).state ≠ .closed :=
  ⟨atRecord_holds 2 3 5 _ site (by decide) (by decide) (by decide), atRecord_holds 2 0 1 _ site (by decide) (by decide) (by decide),
    by decide +kernel⟩

theorem witness_DrainWaitsOrFlushes :
    AtRecord (atRecord 2 0 4 [2] (withSlot .held)) (oneRecord 2 0 4 [2]) 2 (0 : DomainNo).toNat 4 [2] ∧
    AtRecord (atRecord 2 0 4 [1] (withSlot .serving)) (oneRecord 2 0 4 [1]) 2 (0 : DomainNo).toNat 4 [1] ∧
    (((withSlot .held).domain 0).valid = true ∧ ((withSlot .held).domain 0).codeMatches = true ∧
      ((withSlot .held).domain 0).state = .opened) ∧ (site.domain 1).valid = false ∧
    (([3] : List Byte) ≠ [1] ∧ ([3] : List Byte) ≠ [2]) :=
  ⟨atRecord_holds 2 0 4 _ _ (by decide) (by decide) (by decide), atRecord_holds 2 0 4 _ _ (by decide) (by decide) (by decide),
    by decide +kernel⟩

/-- The highest contents of a stream entry. -/
def topStream : StreamContents :=
  { valid := true, takeGate := 255, giveGate := 255, priority := 7, accessA := .full, accessB := .full, selector := 15 }

theorem witness_StreamWriteAndRead :
    AtRecord (atRecord 3 2047 2 (streamValue topStream) site) (oneRecord 3 2047 2 (streamValue topStream)) 3
      (2047 : StreamIndex).toNat 2 (streamValue topStream) ∧
    (∀ c : StreamContents, ([] : List Byte) ≠ streamValue c) ∧
    AtRecord (atRecord 3 0 1 [] site) (oneRecord 3 0 1 []) 3 (0 : StreamIndex).toNat 1 [] ∧
    (site.stream 0).codeMatches = true ∧ ((after (.checkCodeMismatch (.stream 0 none)) site).stream 0).codeMatches = false ∧
    ([0] : List Byte) ≠ [] :=
  ⟨atRecord_holds 3 2047 2 _ _ (by decide) (by decide) (by decide), fun _ => ne_of_length (by simp [streamValue]),
    atRecord_holds 3 0 1 _ _ (by decide) (by decide) (by decide), by decide +kernel⟩

theorem witness_GateWriteSetsAllowance :
    AtRecord (atRecord 4 255 2 (gateValue true 4095 .head 15) site) (oneRecord 4 255 2 (gateValue true 4095 .head 15)) 4
      (255 : GateNo).toNat 2 (gateValue true 4095 .head 15) ∧
    (((withSlot .held).gate 0).valid = true ∧ 0 < ((withSlot .held).gate 0).references) ∧ (site.gate 255).valid = false ∧
    (∀ (valid : Bool) (ceiling : Nat) (placement : Placement) (sel : Selector), 1 ≤ ceiling → ceiling ≤ 4095 →
      ([] : List Byte) ≠ gateValue valid ceiling placement sel) :=
  ⟨atRecord_holds 4 255 2 _ _ (by decide) (by decide) (by decide), by decide +kernel, by decide +kernel,
    fun _ _ _ _ _ _ => ne_of_length (by simp [gateValue])⟩

theorem witness_GateReadReturnsViews :
    AtRecord (atRecord 4 0 1 [2] (withSlot .held)) (oneRecord 4 0 1 [2]) 4 (0 : GateNo).toNat 1 [2] ∧
    ((withSlot .held).gate 0).holdQueue = [5] ∧ (site.gate 0).holdQueue = [] ∧
    (([3] : List Byte) ≠ [] ∧ ([3] : List Byte) ≠ [0] ∧ ([3] : List Byte) ≠ [1] ∧ ([3] : List Byte) ≠ [2]) :=
  ⟨atRecord_holds 4 0 1 _ _ (by decide) (by decide) (by decide), by decide +kernel⟩

theorem witness_SetAllowanceReleasesFirst :
    AtRecord (atRecord 4 0 3 (twoBytes 2) (withSlot .held)) (oneRecord 4 0 3 (twoBytes 2)) 4 (0 : GateNo).toNat 3 (twoBytes 2) ∧
    (((withSlot .held).gate 0).ceiling < 3 ∧ 2 ≤ ((withSlot .held).gate 0).ceiling ∧ ((withSlot .held).gate 0).valid = true) ∧
    (1 ≤ (site.gate 9).ceiling ∧ (site.gate 9).valid = false) ∧ ([0] : List Byte).length ≠ 2 :=
  ⟨atRecord_holds 4 0 3 _ _ (by decide) (by decide) (by decide), by decide +kernel⟩

theorem witness_DeadlineRecords :
    (AtRecord (atRecord 5 15 2 (twoBytes 65535) site) (oneRecord 5 15 2 (twoBytes 65535)) 5 (15 : Selector).toNat 2 (twoBytes 65535) ∧
      twoBytes 65535 = twoBytes (0xFFFF : BitVec 16).toNat ∧ (15 : Selector) ≠ 0) ∧
    AtRecord (atRecord 5 0 2 (twoBytes 0) site) (oneRecord 5 0 2 (twoBytes 0)) 5 (0 : Selector).toNat 2 (twoBytes 0) ∧
    AtRecord (atRecord 5 0 1 [] site) (oneRecord 5 0 1 []) 5 (0 : Selector).toNat 1 [] ∧ EntryZeroUnlimited site ∧
    ([0] : List Byte).length ≠ 2 ∧ ([0] : List Byte) ≠ [] ∧
    (AtRecord (atRecord 5 16 2 [] site) (oneRecord 5 16 2 []) 5 16 2 [] ∧ 15 < 16) :=
  ⟨⟨atRecord_holds 5 15 2 _ _ (by decide) (by decide) (by decide), by decide, by decide⟩,
    atRecord_holds 5 0 2 _ _ (by decide) (by decide) (by decide), atRecord_holds 5 0 1 _ _ (by decide) (by decide) (by decide), rfl,
    by decide, by decide, atRecord_holds 5 16 2 _ _ (by decide) (by decide) (by decide), by decide⟩

theorem witness_ConditionRecords :
    AtRecord (atRecord 6 10 2 [1] site) (oneRecord 6 10 2 [1]) 6 (CondKind.number .privilegeChange) 2 [1] ∧
    AtRecord (atRecord 6 0 7 [] site) (oneRecord 6 0 7 []) 6 (CondKind.number .initiatorLinkChange) 7 [] ∧
    AtRecord (atRecord 6 10 1 [] site) (oneRecord 6 10 1 []) 6 (CondKind.number .privilegeChange) 1 [] ∧
    (([2] : List Byte) ≠ [0] ∧ ([2] : List Byte) ≠ [1] ∧ ([2] : List Byte) ≠ []) :=
  ⟨atRecord_holds 6 10 2 _ _ (by decide) (by decide) (by decide), atRecord_holds 6 0 7 _ _ (by decide) (by decide) (by decide),
    atRecord_holds 6 10 1 _ _ (by decide) (by decide) (by decide), by decide⟩

theorem witness_DeviceWriteChecksAndStores :
    AtRecord (atRecord 7 0 2 (deviceValue 2048 1023 0 .onRead) site) (oneRecord 7 0 2 (deviceValue 2048 1023 0 .onRead)) 7 0 2
      (deviceValue 2048 1023 0 .onRead) ∧ (site.source 1).state ≠ .manager ∧
    ((site.source 0).codeMatches = true ∧ (site.source 0).state = .manager) ∧
    4096 - 2048 < { site with txPages := 2049 }.txPages ∧ { site with txPages := 2048 }.txPages ≤ 4096 - 2048 ∧
    (∀ (reserve threshold : Nat) (target : SourceNo) (mode : ClearMode), reserve ≤ 2048 → threshold ≤ 1023 →
      ([] : List Byte) ≠ deviceValue reserve threshold target mode) :=
  ⟨atRecord_holds 7 0 2 _ _ (by decide) (by decide) (by decide), by decide +kernel, by decide +kernel, by decide, by decide,
    fun _ _ _ _ _ _ => ne_of_length (by simp [deviceValue])⟩

theorem witness_DeviceRecords :
    AtRecord (atRecord 7 0 1 [2] site) (oneRecord 7 0 1 [2]) 7 0 1 [2] ∧
    AtRecord (atRecord 7 0 8 [0] site) (oneRecord 7 0 8 [0]) 7 0 8 [0] ∧
    (([3] : List Byte) ≠ [] ∧ ([3] : List Byte) ≠ [0] ∧ ([3] : List Byte) ≠ [1] ∧ ([3] : List Byte) ≠ [2]) :=
  ⟨atRecord_holds 7 0 1 _ _ (by decide) (by decide) (by decide), atRecord_holds 7 0 8 _ _ (by decide) (by decide) (by decide),
    by decide⟩

theorem lawful_atRecord : AtRecord lawful (oneRecord 7 0 9 []) 7 0 9 [] :=
  atRecord_holds 7 0 9 [] _ (by decide) (by decide) (by decide)

theorem witness_RestartResetsBlocks :
    (AtRecord lawful (oneRecord 7 0 9 []) 7 0 9 [] ∧ DeviceLaws lawful) ∧
    AtRecord (atRecord 7 0 9 [0] site) (oneRecord 7 0 9 [0]) 7 0 9 [0] ∧ ([0] : List Byte) ≠ [] :=
  ⟨⟨lawful_atRecord, lawful_laws⟩, atRecord_holds 7 0 9 [0] _ (by decide) (by decide) (by decide), by decide⟩

theorem witness_SlotReadAndWrite :
    AtRecord (atRecord 8 1023 1 [1] site) (oneRecord 8 1023 1 [1]) 8 (1023 : SlotNo).toNat 1 [1] ∧
    AtRecord (atRecord 8 5 2 [] site) (oneRecord 8 5 2 []) 8 (5 : SlotNo).toNat 2 [] ∧ (site.slot 1023).state = .free ∧
    ((withSlot .serving).slot 5).state ≠ .free ∧ (([2] : List Byte) ≠ [] ∧ ([2] : List Byte) ≠ [0] ∧ ([2] : List Byte) ≠ [1]) :=
  ⟨atRecord_holds 8 1023 1 _ _ (by decide) (by decide) (by decide), atRecord_holds 8 5 2 _ _ (by decide) (by decide) (by decide),
    by decide +kernel⟩

theorem witness_ReclaimFreesLapsedSlot :
    AtRecord (atRecord 8 5 6 [1] (withSlot .lapsed)) (oneRecord 8 5 6 [1]) 8 (5 : SlotNo).toNat 6 [1] ∧
    ((withSlot .lapsed).slot 5).state = .lapsed ∧ ((withSlot .lapsing).slot 5).state ≠ .lapsed ∧
    (([2] : List Byte) ≠ [0] ∧ ([2] : List Byte) ≠ [1]) ∧
    AtRecord (atRecord 8 1024 6 [] site) (oneRecord 8 1024 6 []) 8 1024 6 [] ∧
    AtRecord (atRecord 1 0 6 [] site) (oneRecord 1 0 6 []) 1 0 6 [] :=
  ⟨atRecord_holds 8 5 6 _ _ (by decide) (by decide) (by decide), by decide +kernel, by decide +kernel, by decide,
    atRecord_holds 8 1024 6 _ _ (by decide) (by decide) (by decide), atRecord_holds 1 0 6 _ _ (by decide) (by decide) (by decide)⟩

/-- Source 1 in class B, for which the flow's entry permits nothing. -/
def classB : State :=
  receiving (flowPacket 1 0 []) (site.setSource 1 { SourceEntry.reset with state := .member, cls := .b, limit := 2 })

theorem witness_AccessCodesPermitKinds :
    InKind.isFlow .transact = true ∧ classB.initPort.rx = [flowPacket 1 0 []] ∧ classB.brief.length < 32 ∧
    (flowPacket 1 0 []).kindCode = InKind.code .transact ∧
    (∀ r, (reasonValue r).toNat < 10 → ¬ CheckFails .transact (flowPacket 1 0 []) classB r) ∧
    Access.permits (governingAccess classB (flowPacket 1 0 [])) .transact = false ∧
    (classB.source (flowPacket 1 0 []).source).cls = .b ∧ (site.source (flowPacket 1 0 []).source).cls = .a := by
  refine ⟨rfl, rfl, by decide +kernel, by decide +kernel, fun r h => ?_, by decide +kernel, by decide +kernel, by decide +kernel⟩
  cases r <;> first
    | exact absurd h (by decide)
    | (unfold CheckFails; decide +kernel)

theorem witness_HeaderFieldsRoundTrip :
    (List.replicate 544 (0 : Byte)).length ≤ 544 ∧ (1023 : SlotNo).toNat ≥ 256 ∧ (255 : SlotNo).toNat < 256 ∧
    ((completePacket [1]).serviceFillZero = true ∧ (completePacket [1]).payload.length = (completePacket [1]).lengthField) ∧
    ((flowPacket 1 0 [1]).initiatorFillZero = true ∧ (flowPacket 1 0 [1]).payload.length = (flowPacket 1 0 [1]).lengthField) := by
  decide +kernel

/-- A lawful state with a command waiting, so that the step is an event. -/
def lawfulWaiting : State := { lawful with pending := [.restart] }

theorem witness_StepKeeps :
    TablesCanonical lawful ∧ ConditionsLawful lawful ∧ (QueuesBounded lawful ∧ EngineLawful lawful) ∧ PortsLawful lawful ∧
    DeviceLaws lawful ∧ step lawful = .next lawful :=
  ⟨lawful_tables, lawful_conditions, ⟨lawful_laws.queues, lawful_engine⟩, lawful_ports, lawful_laws, rfl⟩

/-- The laws do not speak of the queue of commands. -/
theorem lawfulWaiting_laws : DeviceLaws lawfulWaiting where
  canonical := ⟨lawful_tables.1, lawful_tables.2, lawful_tables.3, lawful_tables.4, lawful_tables.5, lawful_tables.6,
    lawful_tables.7, lawful_tables.8, lawful_tables.9⟩
  gates := lawful_gates
  shaped := lawful_slots
  collected := lawful_collected.casesOn fun a b c d e f => ⟨a, b, c, d, e, f⟩
  ordered := lawful_laws.ordered
  tags := lawful_tags
  counted := lawful_counts.casesOn fun a b c => ⟨a, b, c⟩
  pages := lawful_pages.casesOn fun a b c d e => ⟨a, b, c, d, e⟩
  queues := lawful_laws.queues.casesOn fun a b c d e f => ⟨a, b, c, d, e, f⟩
  engine := lawful_engine.casesOn fun a b => ⟨a, b⟩
  ports := lawful_ports.casesOn fun a b c => ⟨a, b, c⟩
  conditions := lawful_conditions.casesOn fun a b c => ⟨a, b, c⟩
  target := lawful_laws.target
  entryZero := lawful_laws.entryZero
  domains := lawful_domains.casesOn fun a b c d e f => ⟨a, b, c, d, e, f⟩

theorem witness_StepKeeps_event : DeviceLaws lawfulWaiting ∧ step lawfulWaiting = exec .restart lawful :=
  ⟨lawfulWaiting_laws, rfl⟩

end Sys2Proof.Tests
end

/-! The WRITE of a gate (R13): its ruling in each of its three outcomes, and the obligation that states them. -/

namespace Sys2Proof.Machine

variable {s : State} {b : Batch} {g : GateNo} {value : List Byte}
  {valid : Bool} {ceiling : Nat} {placement : Placement} {sel : Selector}

/-- The keyed record of a WRITE addressed to gate g (R133). -/
def gateWriteRecord (g : GateNo) (value : List Byte) : Record :=
  { table := 4, index := g.toNat, kind := .write, value := value }

/-- A gate record after a WRITE reported DONE, its allowance by the table of R13. -/
def Gate.written (x : Gate) (valid : Bool) (ceiling : Nat) (placement : Placement) (sel : Selector) : Gate :=
  { x with
    valid := valid, ceiling := ceiling, placement := placement, selector := sel
    allowance := if valid = false then 0 else if x.valid = false then ceiling else min x.allowance ceiling }

theorem allowanceAfterWrite_eq (x : Gate) (valid : Bool) (ceiling : Nat) :
    allowanceAfterWrite x valid ceiling =
      if valid = false then 0 else if x.valid = false then ceiling else min x.allowance ceiling := by
  unfold allowanceAfterWrite
  cases hx : x.valid <;> cases valid <;> rfl

/-! ## The ruling -/

theorem ruleGateWrite_badValue (hv : readGateValue value = none) :
    ruleGateWrite (gateWriteRecord g value) s = ruledRefused s .badValue := by
  simp only [ruleGateWrite, gateWriteRecord, hv]

/-- A valid gate with references is not made invalid. -/
theorem ruleGateWrite_wrongState (hv : readGateValue value = some (valid, ceiling, placement, sel))
    (hrefs : (s.gate g).valid = true ∧ valid = false ∧ 0 < (s.gate g).references) :
    ruleGateWrite (gateWriteRecord g value) s = ruledRefused s .wrongState := by
  simp only [ruleGateWrite, gateWriteRecord, hv, BitVec.ofNat_toNat, BitVec.setWidth_eq]
  exact if_pos hrefs

/-- Every other WRITE of a laid-out value stores the four fields and sets the allowance. -/
theorem ruleGateWrite_done (hv : readGateValue value = some (valid, ceiling, placement, sel))
    (hrefs : ¬ ((s.gate g).valid = true ∧ valid = false ∧ 0 < (s.gate g).references)) :
    ruleGateWrite (gateWriteRecord g value) s =
      ruledDone (s.setGate g ((s.gate g).written valid ceiling placement sel)) := by
  simp only [ruleGateWrite, gateWriteRecord, hv, BitVec.ofNat_toNat, BitVec.setWidth_eq, modifyGate,
    allowanceAfterWrite_eq, Gate.written]
  exact if_neg hrefs

/-- The obligation's third clause speaks of layouts, the rule of its reader: they name the same values. -/
theorem readGateValue_eq_none_iff : readGateValue value = none ↔
    ∀ (valid : Bool) (ceiling : Nat) (placement : Placement) (sel : Selector), 1 ≤ ceiling → ceiling ≤ 4095 →
      value ≠ gateValue valid ceiling placement sel := by
  simp only [Option.eq_none_iff_forall_ne_some, Prod.forall, ne_eq, readGateValue_iff, not_and]

/-! ## The row -/

/-- The GATE_WRITE row at its record: the state becomes the ruling's, and the head batch moves past the record. -/
theorem exec_gateWrite_of_ruling {x : Ruling} (hat : AtRecord s b 4 g.toNat 2 value)
    (hx : ruleGateWrite (gateWriteRecord g value) s = x) :
    exec .gateWrite s = .next (x.state.withHead (b.afterRecord 4 g.toNat value x.status x.data)) := by
  subst hx
  have howner : Record.owner (gateWriteRecord g value) = some .gateWrite := owner_of_index g.isLt
  exact congrArg Host.Outcome.next (takeRecord_atRecord ruleGateWrite hat rfl howner)

end Sys2Proof.Machine

namespace Sys2Proof.Proofs

open Sys2Proof.Machine

/-- Settles O39: a value of a gate WRITE is read back exactly when it is laid out by R175, and the ruling then turns on
the one condition of R13, a valid gate with references that would become invalid. -/
theorem gateWriteSetsAllowance : Obligations.GateWriteSetsAllowance := by
  intro b g value s hat
  refine ⟨fun valid ceiling placement sel hlow hhigh hlaid => ⟨fun hwas hnow hrefs => ?refused, fun hfree => ?stored⟩,
    fun hbad => ?badValue⟩
  case refused =>
    have hread := readGateValue_iff.mpr ⟨hlow, hhigh, hlaid⟩
    exact exec_gateWrite_of_ruling hat (ruleGateWrite_wrongState hread ⟨hwas, hnow, hrefs⟩)
  case stored =>
    have hread := readGateValue_iff.mpr ⟨hlow, hhigh, hlaid⟩
    have hallowed : ¬ ((s.gate g).valid = true ∧ valid = false ∧ 0 < (s.gate g).references) := by
      rintro ⟨hwas, hnow, hrefs⟩
      rcases hfree with hinvalid | hvalid | hzero
      · simp [hwas] at hinvalid
      · simp [hnow] at hvalid
      · omega
    exact exec_gateWrite_of_ruling hat (ruleGateWrite_done hread hallowed)
  case badValue =>
    exact exec_gateWrite_of_ruling hat (ruleGateWrite_badValue (readGateValue_eq_none_iff.mpr hbad))

end Sys2Proof.Proofs

/-! The fifteen checks of admission (R40): the reason that refuses a packet is the first check it fails, what taking the
oldest packet does with it, and the obligations that speak of an accepted MANAGE and of the access codes. -/

namespace Sys2Proof.Machine

variable {k : InKind} {p : Packet} {s : State} {r : Reason} {accept : Packet → State → State}

/-! ## Each check of the list refuses what its condition says -/

theorem domainAdmits_eq_false_iff {st : DomainState} :
    domainAdmits st k = false ↔ st = .closed ∨ (st = .draining ∧ k ≠ .post) := by
  cases st with
  | opened => simp [domainAdmits]
  | draining => cases k <;> simp [domainAdmits]
  | closed => simp [domainAdmits]

theorem freeCount_eq_zero_iff : s.freeCount = 0 ↔ ∀ n : SlotNo, (s.slot n).state ≠ .free := by
  simp only [State.freeCount, State.freeList, List.length_map, List.length_eq_zero_iff, List.filter_eq_nil_iff,
    List.mem_range, decide_eq_true_eq]
  constructor
  · intro h n
    exact h n.toNat n.isLt
  · intro h x hx
    have hn := h (BitVec.ofNat 10 x)
    rwa [State.slot, BitVec.toNat_ofNat, Nat.mod_eq_of_lt hx] at hn

theorem claimFits_eq_false_iff {pages : Nat} : claimFits s pages = false ↔
    pages ≠ 0 ∧ (4096 - s.reserve < s.txPages + pages ∨ s.freePages < pages) := by
  simp only [claimFits, Bool.or_eq_false_iff, Bool.and_eq_false_iff, decide_eq_false_iff_not, not_le, ne_eq]

theorem pagesOf_eq_zero_iff {n : Nat} : pagesOf n = 0 ↔ n = 0 := by
  have hpages : pagesOf n = (n + 63) / 64 := rfl
  omega

/-- Every entry of the list of R40 is failed exactly when its reason's condition holds. -/
theorem checks_iff_checkFails : ∀ c ∈ checks k p s, c.1 = true ↔ CheckFails k p s c.2 := by
  simp only [checks, List.forall_mem_cons]
  refine ⟨?malformed, ?sourceDisabled, ?notManager, ?busy, ?domainInvalid, ?domainClosed, ?streamRange, ?streamInvalid,
    ?tableFault, ?accessDenied, ?gateInvalid, ?duplicateTag, ?sourceLimit, ?noSlot, ?noBuffer, List.forall_mem_nil _⟩
  case malformed => exact Iff.rfl
  case sourceDisabled | notManager => simp [CheckFails, sourceFaulted, and_assoc]
  case busy | accessDenied | gateInvalid | sourceLimit => simp [CheckFails]
  case domainInvalid | streamRange => simp [CheckFails, domainFaulted, and_assoc]
  case domainClosed => simp [CheckFails, domainFaulted, domainAdmits_eq_false_iff, and_assoc]
  case streamInvalid | tableFault =>
    cases hdomain : (s.domain p.domain).codeMatches <;>
      simp [CheckFails, sourceFaulted, domainFaulted, streamFaulted, hdomain, and_assoc]
  case duplicateTag => simp [CheckFails, Option.isSome_iff_ne_none]
  case noSlot => simp [CheckFails, freeCount_eq_zero_iff]
  case noBuffer =>
    simp only [CheckFails, Bool.and_eq_true, Bool.not_eq_true', decide_eq_true_eq, claimFits_eq_false_iff, ne_eq,
      pagesOf_eq_zero_iff]
    rfl

/-! ## The first failed check (R40) -/

/-- The checks stand in the order of their reasons' codes. -/
theorem checks_ordered :
    (checks k p s).Pairwise (fun c c' => (reasonValue c.2).toNat < (reasonValue c'.2).toNat) := by
  simp [checks, reasonValue]

/-- Each reason whose check can fail has an entry in the list. -/
theorem mem_checks_of_checkFails (hfails : CheckFails k p s r) : (true, r) ∈ checks k p s := by
  have hentry : ∃ b, (b, r) ∈ checks k p s := by
    cases r
    case notFound | inService | answered => exact hfails.elim
    all_goals simp [checks]
  obtain ⟨b, hb⟩ := hentry
  have htrue : b = true := (checks_iff_checkFails _ hb).mpr hfails
  exact htrue ▸ hb

theorem firstFailure_eq_none {cs : List (Bool × Reason)} (hpass : ∀ c ∈ cs, c.1 = false) :
    firstFailure cs = none := by
  induction cs with
  | nil => rfl
  | cons c cs ih =>
    obtain ⟨b, r⟩ := c
    obtain ⟨hc, hcs⟩ := List.forall_mem_cons.mp hpass
    cases hc
    exact ih hcs

/-- In a list that rises by the reasons' codes, a failed entry with no failed entry of a lower code is the first. -/
theorem firstFailure_eq_some {cs : List (Bool × Reason)}
    (hord : cs.Pairwise (fun c c' => (reasonValue c.2).toNat < (reasonValue c'.2).toNat)) (hmem : (true, r) ∈ cs)
    (hbelow : ∀ c ∈ cs, (reasonValue c.2).toNat < (reasonValue r).toNat → c.1 = false) :
    firstFailure cs = some r := by
  induction cs with
  | nil => cases hmem
  | cons c cs ih =>
    obtain ⟨b, r'⟩ := c
    obtain ⟨hhead, htail⟩ := List.pairwise_cons.mp hord
    obtain ⟨hpass, hrest⟩ := List.forall_mem_cons.mp hbelow
    rcases List.mem_cons.mp hmem with hfirst | hlater
    · cases hfirst
      rfl
    · cases hpass (hhead (true, r) hlater)
      exact ih htail hlater hrest

theorem failedCheck_eq_none (hpass : ∀ r, ¬ CheckFails k p s r) : failedCheck k p s = none :=
  firstFailure_eq_none fun c hc => Bool.eq_false_iff.mpr (mt (checks_iff_checkFails c hc).mp (hpass c.2))

/-- The packet is refused for the check that fails when none before it does. -/
theorem failedCheck_eq_some (hfails : CheckFails k p s r)
    (hbefore : ∀ r', (reasonValue r').toNat < (reasonValue r).toNat → ¬ CheckFails k p s r') :
    failedCheck k p s = some r :=
  firstFailure_eq_some checks_ordered (mem_checks_of_checkFails hfails) fun c hc hlow =>
    Bool.eq_false_iff.mpr (mt (checks_iff_checkFails c hc).mp (hbefore c.2 hlow))

/-- The flow checks and the slot checks do not apply to a MANAGE, so its own four and check 9 decide (R59). -/
theorem not_checkFails_manage (hwell : malformed p = false) (hcode : (s.source p.source).codeMatches = true)
    (hmanager : (s.source p.source).state = .manager) (hroom : s.batches.length < 4) (r : Reason) :
    ¬ CheckFails .manage p s r := by
  cases r
  case malformed => simp [CheckFails, hwell]
  case sourceDisabled | notManager => simp [CheckFails, hmanager]
  case busy => simp [CheckFails, hroom]
  case tableFault => simp [CheckFails, InKind.isFlow, hcode]
  case domainInvalid | domainClosed | streamRange | streamInvalid | accessDenied | gateInvalid =>
    simp [CheckFails, InKind.isFlow]
  case duplicateTag | sourceLimit | noSlot => simp [CheckFails, InKind.needsSlot]
  case noBuffer | notFound | inService | answered => simp [CheckFails]

/-- No check reads the receive buffer. -/
theorem failedCheck_takeFromBuffer : failedCheck k p (takeFromBuffer .initiator s) = failedCheck k p s := rfl

/-! ## Taking the oldest packet (R39) -/

/-- The rule that a packet of a kind goes to when it passes its checks. -/
def InKind.rule : InKind → Packet → State → State
  | .transact => ruleTransact
  | .await => ruleAwait
  | .post => rulePost
  | .withdraw => ruleWithdraw
  | .manage => ruleManage

theorem exec_row : exec k.row s = .next (takePacket k k.rule s) := by
  cases k <;> rfl

theorem ofCode_code : InKind.ofCode k.code = some k := by
  cases k <;> rfl

/-- The row of a packet's own kind takes it from the head of the buffer. -/
theorem oldestFor_eq_some {later : List Packet} (hrx : s.initPort.rx = p :: later) (hbrief : s.brief.length < 32)
    (hkind : p.kindCode = k.code) : oldestFor k s = some p := by
  have htakes : rowTakes k p = true := by simp [rowTakes, hkind, ofCode_code]
  simp [oldestFor, hrx, htakes, hbrief]

theorem takePacket_of_failed (hold : oldestFor k s = some p) (hfailed : failedCheck k p s = some r) :
    takePacket k accept s = refuse p r (takeFromBuffer .initiator s) := by
  simp only [takePacket, hold, failedCheck_takeFromBuffer, hfailed]

theorem takePacket_of_passed (hold : oldestFor k s = some p) (hpassed : failedCheck k p s = none) :
    takePacket k accept s = accept p (takeFromBuffer .initiator s) := by
  simp only [takePacket, hold, failedCheck_takeFromBuffer, hpassed]

/-! ## What a refusal and an admission change -/

theorem countAdmitted_counts (p : Packet) (s : State) : CountsAdmitted p.source s (countAdmitted p s) where
  sources j := by
    by_cases hj : j = p.source
    · subst hj
      simp [countAdmitted]
    · simp [countAdmitted, State.source_setSource, hj]
  frame := rfl

theorem countRefused_source (j : SourceNo) : (countRefused p s).source j =
    { s.source j with refused := (s.source j).refused + (if j = p.source then 1 else 0) } := by
  by_cases hj : j = p.source
  · subst hj
    simp [countRefused]
  · simp [countRefused, State.source_setSource, hj]

/-- The detail of a table fault as the number that its four bytes spell (R176). -/
theorem tableDetail_eq {table : Byte} {index : Nat} (hindex : index < 2 ^ 16) :
    tableDetail table index = BitVec.ofNat 32 (table.toNat * 2 ^ 24 + index) := by
  have htable : (table ++ (0 : Byte)).toNat = table.toNat * 2 ^ 8 := by
    rw [BitVec.toNat_append, ← Nat.shiftLeft_add_eq_or_of_lt (0 : Byte).isLt, Nat.shiftLeft_eq]
    exact Nat.add_zero _
  have hlow : (BitVec.ofNat 16 index).toNat = index := Nat.mod_eq_of_lt hindex
  apply BitVec.eq_of_toNat_eq
  rw [tableDetail, BitVec.toNat_append, htable, hlow, ← Nat.shiftLeft_add_eq_or_of_lt hindex, Nat.shiftLeft_eq,
    BitVec.toNat_ofNat]
  omega

theorem tableFaultDetail_eq : tableFaultDetail p s =
    if (s.source p.source).codeMatches = false then BitVec.ofNat 32 (2 ^ 24 + p.source.toNat)
    else if (s.domain p.domain).codeMatches = false then BitVec.ofNat 32 (2 * 2 ^ 24 + p.domain.toNat)
    else BitVec.ofNat 32 (3 * 2 ^ 24 + (flowIndex s p).toNat) := by
  have hsource : p.source.toNat < 2 ^ 16 := by omega
  have hdomain : p.domain.toNat < 2 ^ 16 := by omega
  have hstream : (flowIndex s p).toNat < 2 ^ 16 := by omega
  simp only [tableFaultDetail, sourceFaulted, domainFaulted, Bool.not_eq_true', tableDetail_eq hsource,
    tableDetail_eq hdomain, tableDetail_eq hstream]
  rfl

theorem ofCode_eq_withdraw_iff {c : BitVec 4} : InKind.ofCode c = some .withdraw ↔ c = 4 := by
  revert c
  decide

/-- The tag byte of a REFUSE (R42), with the WITHDRAW told by its kind code. -/
theorem refusalTag_eq : refusalTag p r = if r ≠ .malformed ∧ p.kindCode = 4 then p.b7 else p.b2 := by
  simp only [refusalTag, ofCode_eq_withdraw_iff]
  rfl

/-- Raising a condition touches the condition unit's fields alone (R161, R162). -/
theorem raiseForRefusal_frame : raiseForRefusal p r s =
    { s with conditions := (raiseForRefusal p r s).conditions, notices := (raiseForRefusal p r s).notices } := by
  unfold raiseForRefusal
  split
  · rfl
  · split <;> rfl

theorem raiseForRefusal_source (j : SourceNo) : (raiseForRefusal p r s).source j = s.source j := by
  rw [raiseForRefusal_frame]
  rfl

theorem raiseForRefusal_brief : (raiseForRefusal p r s).brief = s.brief := by
  rw [raiseForRefusal_frame]

theorem refuse_refused (p : Packet) (r : Reason) (s : State) : Refused p r s (refuse p r s) where
  brief := by
    rw [← refusalTag_eq]
    exact congrArg (· ++ _) raiseForRefusal_brief
  sources j := by
    show (countRefused p (raiseForRefusal p r s)).source j = _
    rw [countRefused_source, raiseForRefusal_source]
  fault hr := by
    subst hr
    rw [← tableFaultDetail_eq]
    exact raise_raised s .tableFault _
  bufferLow hr := by
    subst hr
    exact raise_raised s .bufferLow _
  quiet hfault hbuffer := by
    have hquiet : raiseForRefusal p r s = s := by simp only [raiseForRefusal, hfault, hbuffer, if_false]
    show (raiseForRefusal p r s).conditions = _ ∧ (raiseForRefusal p r s).notices = _
    rw [hquiet]
    exact ⟨rfl, rfl⟩
  frame := congrArg (fun u : State => { u with brief := (refuse p r s).brief, sources := (refuse p r s).sources })
    raiseForRefusal_frame

/-! ## The access codes (R48) -/

theorem permits_iff {a : Access} (hflow : k.isFlow = true) : Access.permits a k = true ↔
    (a = .post ∧ k = .post) ∨ (a = .sync ∧ (k = .await ∨ k = .post)) ∨ (a = .serve ∧ k = .transact) ∨ a = .full := by
  cases k with
  | transact => cases a <;> simp [Access.permits]
  | await => cases a <;> simp [Access.permits]
  | post => cases a <;> simp [Access.permits]
  | withdraw => cases hflow
  | manage => cases hflow

theorem governingAccess_of_classA (hclass : (s.source p.source).cls = .a) :
    governingAccess s p = (flowEntry s p).accessA := by
  simp only [governingAccess, hclass]

theorem governingAccess_of_classB (hclass : (s.source p.source).cls = .b) :
    governingAccess s p = (flowEntry s p).accessB := by
  simp only [governingAccess, hclass]

end Sys2Proof.Machine

namespace Sys2Proof.Proofs

open Sys2Proof.Machine

/-- Settles O20: a MANAGE that no check fails goes to its rule, which puts its batch at the queue's tail. -/
theorem manageJoinsBatchQueue : Obligations.ManageJoinsBatchQueue := by
  intro p s ⟨⟨later, hrx⟩, hbrief, hkind, hwell⟩ hcode hmanager hroom
  have htaken := takePacket_of_passed (accept := ruleManage) (oldestFor_eq_some hrx hbrief hkind)
    (failedCheck_eq_none (not_checkFails_manage hwell hcode hmanager hroom))
  exact ⟨_, _, exec_row.trans (congrArg _ htaken), takeFromBuffer_took s .initiator, countAdmitted_counts p _⟩

/-- Settles O50, by the table of R48 code by code, the code that the source's class selects, and check 10 as the first
check that a packet without permission fails. -/
theorem accessCodesPermitKinds : Obligations.AccessCodesPermitKinds := by
  refine ⟨fun _ _ hflow => permits_iff hflow, fun _ _ => ⟨governingAccess_of_classA, governingAccess_of_classB⟩,
    fun k p later s hflow hrx hbrief hkind hbefore hdenied => ?refused⟩
  case refused =>
    have hfailed : failedCheck k p s = some .accessDenied := failedCheck_eq_some ⟨hflow, hdenied⟩ hbefore
    have htaken := takePacket_of_failed (accept := k.rule) (oldestFor_eq_some hrx hbrief hkind) hfailed
    exact ⟨_, _, exec_row.trans (congrArg _ htaken), takeFromBuffer_took s .initiator, refuse_refused p _ _⟩

end Sys2Proof.Proofs

/-! The dispatcher (R66, R67): which slot it chooses, what a forward changes, and the obligation that states both. -/

namespace Sys2Proof.Machine

variable {s : State} {l m : Level} {n : SlotNo} {q : List SlotNo}

/-! ## The slot chosen (R66) -/

theorem mem_allLevels (l : Level) : l ∈ allLevels := by
  revert l
  decide

/-- The ladder is searched in the order of the level numbers, level 0 being the highest (R63). -/
theorem allLevels_ascending : allLevels.Pairwise (fun m l => m.toNat < l.toNat) := by
  decide

/-- Every level ahead of l in the search is higher than l, so when those are empty the search ends at the head of l. -/
theorem ladderHead_eq_some (hhead : s.level l = n :: q) (habove : ∀ m : Level, m.toNat < l.toNat → s.level m = []) :
    ladderHead s = some n := by
  obtain ⟨ahead, behind, hsplit⟩ := List.append_of_mem (mem_allLevels l)
  obtain ⟨-, -, hhigher⟩ := List.pairwise_append.mp (hsplit ▸ allLevels_ascending)
  have hempty : ahead.flatMap s.level = [] :=
    List.flatMap_eq_nil_iff.mpr fun m hm => habove m (hhigher m hm l List.mem_cons_self)
  simp [ladderHead, hsplit, hempty, hhead]

theorem ladderHead_eq_none (hempty : ∀ l, s.level l = []) : ladderHead s = none :=
  List.head?_eq_none_iff.mpr (List.flatMap_eq_nil_iff.mpr fun l _ => hempty l)

theorem forwardChoice_eq_ladderHead (hrun : s.dispatch = .run) (hup : s.svcPort.link = .up)
    (hcredit : 1 ≤ s.svcPort.credit) : forwardChoice s = ladderHead s :=
  if_pos ⟨hrun, hup, hcredit⟩

theorem forwardChoice_eq_none
    (hfails : s.dispatch ≠ .run ∨ s.svcPort.link ≠ .up ∨ s.svcPort.credit = 0 ∨ (∀ l, s.level l = [])) :
    forwardChoice s = none := by
  rcases hfails with hpaused | hdown | hspent | hempty
  · exact if_neg fun ⟨hrun, _, _⟩ => hpaused hrun
  · exact if_neg fun ⟨_, hup, _⟩ => hdown hup
  · exact if_neg fun ⟨_, _, hcredit⟩ => by omega
  · rw [forwardChoice, ladderHead_eq_none hempty, ite_self]

theorem exec_forward_of_some (hchoice : forwardChoice s = some n) : exec .forward s = .next (forwardSlot n s) := by
  show execForward s = _
  rw [execForward, hchoice]

theorem exec_forward_of_none (hchoice : forwardChoice s = none) : exec .forward s = .next s := by
  show execForward s = _
  rw [execForward, hchoice]

/-! ## What a forward changes (R67) -/

theorem level_forwardSlot : (forwardSlot n s).level m =
    if m = (s.slot n).priority then (s.level (s.slot n).priority).tail else s.level m := by
  simp [forwardSlot, releasePages, transmit, State.level_setLevel]

theorem slot_forwardSlot (m : SlotNo) : (forwardSlot n s).slot m =
    if m = n then { s.slot n with
      state := .serving, pages := 0, payload := [], completionExpected := true
      serviceDeadline := startDeadline s (s.slot n).selector }
    else s.slot m := by
  by_cases hm : m = n <;> simp [forwardSlot, releasePages, transmit, State.slot_setSlot, hm]

theorem forwardSlot_svcPort : (forwardSlot n s).svcPort = { s.svcPort with
    credit := s.svcPort.credit - 1, tx := s.svcPort.tx ++ [forwardPacket n (s.slot n)] } :=
  rfl

theorem forwardSlot_freePages : (forwardSlot n s).freePages = s.freePages + (s.slot n).pages :=
  rfl

theorem forwardSlot_txPages : (forwardSlot n s).txPages = s.txPages - (s.slot n).pages :=
  rfl

theorem forwardSlot_frame : forwardSlot n s = { s with
    ladder := (forwardSlot n s).ladder, svcPort := (forwardSlot n s).svcPort, slots := (forwardSlot n s).slots
    freePages := (forwardSlot n s).freePages, txPages := (forwardSlot n s).txPages } :=
  rfl

end Sys2Proof.Machine

namespace Sys2Proof.Proofs

open Sys2Proof.Machine

/-- Settles O22: the search of the ladder ends at the head of the highest level that holds a slot, and the forward takes
the head of the level that the slot's priority names. -/
theorem forwardTakesHighestHead : Obligations.ForwardTakesHighestHead := by
  refine ⟨fun l n q s hrun hup hcredit hhead habove hprio => ?forwarded,
    fun s hfails => exec_forward_of_none (forwardChoice_eq_none hfails)⟩
  case forwarded =>
    have hchoice : forwardChoice s = some n :=
      (forwardChoice_eq_ladderHead hrun hup hcredit).trans (ladderHead_eq_some hhead habove)
    have hlevel : (forwardSlot n s).level l = q := by
      simp [level_forwardSlot, hprio, hhead]
    have hlevels : ∀ m, m ≠ l → (forwardSlot n s).level m = s.level m := fun m hm => by
      simp [level_forwardSlot, hprio, hm]
    exact ⟨forwardSlot n s, exec_forward_of_some hchoice, hlevel, hlevels, forwardSlot_svcPort,
      (slot_forwardSlot n).trans (if_pos rfl), fun m hm => (slot_forwardSlot m).trans (if_neg hm),
      forwardSlot_freePages, forwardSlot_txPages, forwardSlot_frame⟩

end Sys2Proof.Proofs

/-! The service tracker (R76 to R88): which packets are well-formed COMPLETEs, what the tracker does with the oldest
packet, when a service deadline is due, how RECLAIM rules, and the obligations that state them. -/

namespace Sys2Proof.Machine

variable {s : State} {p : Packet} {later : List Packet} {n : SlotNo}

/-! ## Well-formed COMPLETEs (R87, R172, R173) -/

/-- Byte 0 of a COMPLETE is its kind code over a zero domain and zero fill bits. -/
theorem completeByte_iff (b : Byte) :
    b = 0x20 ↔ b.extractLsb' 4 4 = 2#4 ∧ b.extractLsb' 2 2 = 0#2 ∧ b.extractLsb' 0 2 = 0#2 := by
  revert b
  decide

theorem byte_eq_zero_iff (b : Byte) : b = 0 ↔ b.extractLsb' 6 2 = 0#2 ∧ b.extractLsb' 0 6 = 0#6 := by
  revert b
  decide

/-- The low six bits of byte 3 are its four fill bits over the high bits of the stream. -/
theorem lowSix_eq_zero_iff (b : Byte) :
    b.extractLsb' 0 6 = 0#6 ↔ b.extractLsb' 2 4 = 0#4 ∧ b.extractLsb' 0 2 = 0#2 := by
  revert b
  decide

theorem stream_eq_zero_iff : p.stream = 0 ↔ p.b3.extractLsb' 0 2 = 0#2 ∧ p.b4 = 0 := by
  constructor
  · intro hzero
    have hhigh := congrArg (BitVec.extractLsb' 8 2) hzero
    have hlow := congrArg (BitVec.extractLsb' 0 8) hzero
    rw [Packet.stream, BitVec.extractLsb'_append_eq_left] at hhigh
    rw [Packet.stream, BitVec.extractLsb'_append_eq_right] at hlow
    exact ⟨hhigh, hlow⟩
  · rintro ⟨hhigh, hlow⟩
    rw [Packet.stream, hhigh, hlow]
    rfl

/-- The tracker's test of a packet is the field-by-field test over whole header bytes. -/
theorem wellFormedComplete_iff : wellFormedComplete p = true ↔ IsComplete p := by
  simp only [wellFormedComplete, Packet.serviceFillZero, Bool.and_eq_true, decide_eq_true_eq, stream_eq_zero_iff,
    Config.maxPayload]
  constructor
  · rintro ⟨⟨⟨⟨⟨⟨hkind, ⟨hfill0, hfill1⟩, hfill3⟩, hdomain⟩, hsource⟩, hstream, hlow⟩, hfits⟩, hlength⟩
    exact ⟨(completeByte_iff _).mpr ⟨hkind, hdomain, hfill0⟩, (byte_eq_zero_iff _).mpr ⟨hfill1, hsource⟩,
      (lowSix_eq_zero_iff _).mpr ⟨hfill3, hstream⟩, hlow, hfits, hlength⟩
  · rintro ⟨hb0, hb1, hb3, hlow, hfits, hlength⟩
    obtain ⟨hkind, hdomain, hfill0⟩ := (completeByte_iff _).mp hb0
    obtain ⟨hfill1, hsource⟩ := (byte_eq_zero_iff _).mp hb1
    obtain ⟨hfill3, hstream⟩ := (lowSix_eq_zero_iff _).mp hb3
    exact ⟨⟨⟨⟨⟨⟨hkind, ⟨hfill0, hfill1⟩, hfill3⟩, hdomain⟩, hsource⟩, hstream, hlow⟩, hfits⟩, hlength⟩

/-! ## The oldest packet (R76) -/

theorem exec_complete_of_oldest (hrx : s.svcPort.rx = p :: later) : exec .complete s = .next (takeComplete p s) := by
  show execComplete s = _
  rw [execComplete, hrx]

theorem takeComplete_of_serving (hwell : IsComplete p) (hserving : (s.slot p.trackingTag).state = .serving)
    (hpages : pagesOf p.payload.length ≤ s.freePages) :
    takeComplete p s = completeServing p p.trackingTag (takeServicePacket s) := by
  simp only [takeComplete, wellFormedComplete_iff.mpr hwell, hserving, hpages, if_true]

theorem takeComplete_of_lapsed (hwell : IsComplete p) (hlapsed : (s.slot p.trackingTag).state = .lapsed) :
    takeComplete p s = completeLate p.trackingTag (takeServicePacket s) := by
  simp only [takeComplete, wellFormedComplete_iff.mpr hwell, hlapsed, if_true]

theorem takeComplete_of_stray
    (hstray : ¬ IsComplete p ∨ ((s.slot p.trackingTag).state ≠ .serving ∧ (s.slot p.trackingTag).state ≠ .lapsed)) :
    takeComplete p s = completeStray p (takeServicePacket s) := by
  unfold takeComplete
  rcases hstray with hbad | ⟨hserving, hlapsed⟩
  · exact if_neg (mt wellFormedComplete_iff.mp hbad)
  · cases hstate : (s.slot p.trackingTag).state with
    | serving => exact absurd hstate hserving
    | lapsed => exact absurd hstate hlapsed
    | free | held | laddered | answering | lapsing => exact ite_self _

/-! ## The service deadline (R98) -/

theorem reached_iff {d : Deadline} {now : Time} :
    d.reached now = true ↔ d.units.toNat * 16 ≤ (now - d.start).toNat :=
  decide_eq_true_iff

theorem serviceDue_iff : serviceDue s n = true ↔ (s.slot n).state = .serving ∧
    ∃ d, (s.slot n).serviceDeadline = some d ∧ d.units.toNat * 16 ≤ (s.deviceTime - d.start).toNat := by
  simp only [← reached_iff]
  cases hdeadline : (s.slot n).serviceDeadline <;> simp [serviceDue, hdeadline]

theorem exec_serviceLapse_of_due (hdue : serviceDue s n = true) :
    exec (.serviceLapse n) s = .next (lapseService n s) :=
  congrArg Host.Outcome.next (if_pos hdue)

theorem exec_serviceLapse_of_not_due (hdue : ¬ serviceDue s n = true) : exec (.serviceLapse n) s = .next s :=
  congrArg Host.Outcome.next (if_neg hdue)

/-! ## RECLAIM (R88) -/

variable {b : Batch} {value : List Byte} {asked : Bool}

/-- A give without a sender that is made under a condition. -/
theorem gaveIf_give (c : Bool) (g : GateNo) (s : State) :
    GaveIf c g s (if c then give .noSender .atOnce g s else s) := by
  cases c with
  | true => exact give_gave s .noSender .atOnce g
  | false => rfl

/-- The keyed record of a RECLAIM addressed to slot n (R133). -/
def reclaimRecord (n : SlotNo) (value : List Byte) : Record :=
  { table := 8, index := n.toNat, kind := .reclaim, value := value }

/-- A value without one of the two give codes is not read. -/
theorem readGiveValue_eq_none (hzero : value ≠ [0]) (hone : value ≠ [1]) : readGiveValue value = none := by
  refine Option.eq_none_iff_forall_ne_some.mpr fun asked hread => ?_
  have hvalue := readGiveValue_iff.mp hread
  cases asked with
  | false => exact hzero hvalue
  | true => exact hone hvalue

theorem ruleReclaim_badValue (hread : readGiveValue value = none) :
    ruleReclaim (reclaimRecord n value) s = ruledRefused s .badValue := by
  simp only [ruleReclaim, reclaimRecord, hread]

theorem ruleReclaim_wrongState (hread : readGiveValue value = some asked) (hstate : (s.slot n).state ≠ .lapsed) :
    ruleReclaim (reclaimRecord n value) s = ruledRefused s .wrongState := by
  simp only [ruleReclaim, reclaimRecord, hread, BitVec.ofNat_toNat, BitVec.setWidth_eq]
  exact if_pos hstate

theorem ruleReclaim_done (hread : readGiveValue value = some asked) (hstate : (s.slot n).state = .lapsed) :
    ruleReclaim (reclaimRecord n value) s =
      ruledDone (if asked && (s.slot n).giveOnCompletion then give .noSender .atOnce (s.slot n).giveGate (freeSlot n s)
        else freeSlot n s) := by
  simp only [ruleReclaim, reclaimRecord, hread, BitVec.ofNat_toNat, BitVec.setWidth_eq]
  exact if_neg (not_not.mpr hstate)

/-- The RECLAIM row at its record: the state becomes the ruling's, and the head batch moves past the record. -/
theorem exec_reclaim_of_ruling {x : Ruling} (hat : AtRecord s b 8 n.toNat 6 value)
    (hx : ruleReclaim (reclaimRecord n value) s = x) :
    exec .reclaim s = .next (x.state.withHead (b.afterRecord 8 n.toNat value x.status x.data)) := by
  subst hx
  have howner : Record.owner (reclaimRecord n value) = some .reclaim := owner_of_index n.isLt
  exact congrArg Host.Outcome.next (takeRecord_atRecord ruleReclaim hat rfl howner)

/-! ## Keys that no table takes (R136) -/

/-- The BAD_KEY row at a record that no rule owns: nothing but the head batch changes. -/
theorem exec_badKey_of_unowned {table index : Nat} {code : Byte} {kind : RecordKind}
    (hat : AtRecord s b table index code value) (hkind : RecordKind.ofCode code = some kind)
    (howner : Record.owner { table := table, index := index, kind := kind, value := value } = none) :
    exec .badKey s = .next (s.withHead (b.afterRecord table index value .badKey [])) := by
  show execBadKey s = _
  simp only [execBadKey, currentAction_atRecord hat hkind, howner]
  rfl

/-- The slot table alone takes a RECLAIM (R133). -/
theorem tableTakes_reclaim : ∀ {table : Nat}, table ≠ 8 → tableTakes table .reclaim = none
  | 8, htable => absurd rfl htable
  | 0, _ | 1, _ | 2, _ | 3, _ | 4, _ | 5, _ | 6, _ | 7, _ | _ + 9, _ => rfl

theorem owner_reclaim_eq_none {table index : Nat} (hkey : table ≠ 8 ∨ 1023 < index) :
    Record.owner { table := table, index := index, kind := .reclaim, value := value } = none := by
  by_cases htable : table = 8
  · subst htable
    have hindex : ¬ index < tableSize 8 := by
      simp only [tableSize, Config.numSlots]
      omega
    exact if_neg hindex
  · simp only [Record.owner, tableTakes_reclaim htable, ite_self]

end Sys2Proof.Machine

namespace Sys2Proof.Proofs

open Sys2Proof.Machine

/-- Settles O23: the tracker reads the slot after the packet has left the buffer, which changes no slot, and the parts of
R78 follow in the model's order. -/
theorem completeEndsService : Obligations.CompleteEndsService := by
  intro p later s hrx hwell hserving hpages
  have htaken := takeComplete_of_serving hwell hserving hpages
  exact ⟨_, _, _, _, (exec_complete_of_oldest hrx).trans (congrArg _ htaken), takeServicePacket_took s,
    owe_owes _ _ _ _, leaveActive_fell _ _, completionGive_gave _ (s.slot p.trackingTag)⟩

/-- Settles O24, by the tracker's table of R76: a LAPSED slot is freed before its give and the condition, and every other
state than SERVING, like a malformed packet, leaves only the condition. -/
theorem lateAndStrayCompletes : Obligations.LateAndStrayCompletes := by
  intro p later s hrx
  refine ⟨fun hwell hlapsed => ?late, fun hstray => ?stray⟩
  case late =>
    have htaken := takeComplete_of_lapsed hwell hlapsed
    exact ⟨_, _, _, _, (exec_complete_of_oldest hrx).trans (congrArg _ htaken), takeServicePacket_took s,
      freeSlot_freed _ _, completionGive_gave _ (s.slot p.trackingTag), raise_raised _ _ _⟩
  case stray =>
    have htaken := takeComplete_of_stray hstray
    exact ⟨_, _, (exec_complete_of_oldest hrx).trans (congrArg _ htaken), takeServicePacket_took s, raise_raised _ _ _⟩

/-- Settles O25: the expiry is due exactly at a SERVING slot whose deadline has run its duration. -/
theorem serviceDeadlineLapses : Obligations.ServiceDeadlineLapses := by
  intro n s
  refine ⟨fun d hserving hdeadline hreached => ?due, fun hfails => exec_serviceLapse_of_not_due fun hdue => ?notDue⟩
  case due =>
    have hdue : serviceDue s n = true := serviceDue_iff.mpr ⟨hserving, d, hdeadline, hreached⟩
    exact ⟨_, _, _, exec_serviceLapse_of_due hdue, owe_owes _ _ _ _, leaveActive_fell _ _, raise_raised _ _ _⟩
  case notDue =>
    obtain ⟨hserving, d, hdeadline, hreached⟩ := serviceDue_iff.mp hdue
    rcases hfails with hother | hnone | ⟨d', hdeadline', hrunning⟩
    · exact hother hserving
    · simp [hdeadline] at hnone
    · obtain rfl : d = d' := Option.some.inj (hdeadline.symm.trans hdeadline')
      omega

/-- Settles O49: the value of a RECLAIM is read before the slot's state is looked at, the slot is freed before the give,
and no table but the slot table takes the record. -/
theorem reclaimFreesLapsedSlot : Obligations.ReclaimFreesLapsedSlot := by
  refine ⟨fun b n value s hat => ⟨fun asked hvalue hlapsed => ?done, fun hvalue hstate => ?wrongState,
    fun hzero hone => ?badValue⟩, fun b table index value s hat hkey => ?badKey⟩
  case done =>
    have hruling := ruleReclaim_done (readGiveValue_iff.mpr hvalue) hlapsed
    exact ⟨_, _, freeSlot_freed s n, gaveIf_give _ _ _, exec_reclaim_of_ruling hat hruling⟩
  case wrongState =>
    have hread : ∃ asked, readGiveValue value = some asked := by
      rcases hvalue with hzero | hone
      · exact ⟨false, readGiveValue_iff.mpr hzero⟩
      · exact ⟨true, readGiveValue_iff.mpr hone⟩
    obtain ⟨asked, hread⟩ := hread
    exact exec_reclaim_of_ruling hat (ruleReclaim_wrongState hread hstate)
  case badValue => exact exec_reclaim_of_ruling hat (ruleReclaim_badValue (readGiveValue_eq_none hzero hone))
  case badKey => exact exec_badKey_of_unowned hat rfl (owner_reclaim_eq_none hkey)

end Sys2Proof.Proofs

/-! Holding, deadlines and withdrawal (R96 to R105): the withdrawals that close no slot, the hold expiry, the records of
the deadline table, and the obligations that state them. -/

namespace Sys2Proof.Machine

variable {s : State} {p : Packet} {r : Reason} {n : SlotNo}

/-! ## Withdrawal failures (R105) -/

/-- No check of a flow, of a slot or of the batch queue applies to a WITHDRAW (R58). -/
theorem not_checkFails_withdraw (hwell : malformed p = false) (hcode : (s.source p.source).codeMatches = true)
    (henabled : (s.source p.source).state ≠ .disabled) (r : Reason) : ¬ CheckFails .withdraw p s r := by
  cases r
  case malformed => simp [CheckFails, hwell]
  case sourceDisabled => simp [CheckFails, henabled]
  case tableFault => simp [CheckFails, InKind.isFlow, hcode]
  case domainInvalid | domainClosed | streamRange | streamInvalid | accessDenied | gateInvalid =>
    simp [CheckFails, InKind.isFlow]
  case duplicateTag | sourceLimit | noSlot => simp [CheckFails, InKind.needsSlot]
  case notManager | busy | noBuffer | notFound | inService | answered => simp [CheckFails]

theorem exec_withdraw_of_passed (hold : Oldest .withdraw p s) (hcode : (s.source p.source).codeMatches = true)
    (henabled : (s.source p.source).state ≠ .disabled) :
    exec .withdraw s = .next (ruleWithdraw p (takeFromBuffer .initiator s)) := by
  obtain ⟨⟨later, hrx⟩, hbrief, hkind, hwell⟩ := hold
  exact exec_row.trans (congrArg _ (takePacket_of_passed (oldestFor_eq_some hrx hbrief hkind)
    (failedCheck_eq_none (not_checkFails_withdraw hwell hcode henabled))))

/-- A withdrawal failure is a refusal like those of the fifteen checks, for a reason that raises no condition (R42, R105). -/
theorem refuseWithdraw_refused (s : State) (hkind : p.kindCode = 4) (hmalformed : r ≠ .malformed)
    (hfault : r ≠ .tableFault) (hbuffer : r ≠ .noBuffer) : Refused p r s (refuseWithdraw p r s) := by
  have hsame : refuseWithdraw p r s = refuse p r s := by
    simp only [refuseWithdraw, refuse, raiseForRefusal, hfault, hbuffer, if_false, refusalTag_eq, hkind, hmalformed, ne_eq,
      not_false_eq_true, and_self, if_true]
    rfl
  exact hsame ▸ refuse_refused p r s

theorem ruleWithdraw_of_untagged (htag : s.tagged p.source p.b7 = none) :
    ruleWithdraw p s = refuseWithdraw p .notFound s := by
  simp only [ruleWithdraw, Packet.specific, htag]

theorem ruleWithdraw_of_serving (htag : s.tagged p.source p.b7 = some n) (hstate : (s.slot n).state = .serving) :
    ruleWithdraw p s = refuseWithdraw p .inService s := by
  simp only [ruleWithdraw, Packet.specific, htag, hstate]

theorem ruleWithdraw_of_owing (htag : s.tagged p.source p.b7 = some n)
    (hstate : (s.slot n).state = .answering ∨ (s.slot n).state = .lapsing) :
    ruleWithdraw p s = refuseWithdraw p .answered s := by
  rcases hstate with hanswering | hlapsing
  · simp only [ruleWithdraw, Packet.specific, htag, hanswering]
  · simp only [ruleWithdraw, Packet.specific, htag, hlapsing]

/-- An admitted WITHDRAW whose rule is a withdrawal failure: the packet is taken, and then refused (R105). -/
theorem exec_withdraw_refused (hold : Oldest .withdraw p s) (hcode : (s.source p.source).codeMatches = true)
    (henabled : (s.source p.source).state ≠ .disabled)
    (hrule : ruleWithdraw p (takeFromBuffer .initiator s) = refuseWithdraw p r (takeFromBuffer .initiator s))
    (hmalformed : r ≠ .malformed) (hfault : r ≠ .tableFault) (hbuffer : r ≠ .noBuffer) :
    ∃ u t, exec .withdraw s = .next t ∧ TookOldest .initiator s u ∧ Refused p r u t :=
  ⟨_, _, (exec_withdraw_of_passed hold hcode henabled).trans (congrArg _ hrule), takeFromBuffer_took s .initiator,
    refuseWithdraw_refused _ hold.kind hmalformed hfault hbuffer⟩

/-! ## The hold expiry (R98, R100) -/

theorem holdDue_iff : holdDue s n = true ↔ (s.slot n).state = .held ∧
    ∃ d, (s.slot n).holdDeadline = some d ∧ d.units.toNat * 16 ≤ (s.deviceTime - d.start).toNat := by
  simp only [← reached_iff]
  cases hdeadline : (s.slot n).holdDeadline <;> simp [holdDue, hdeadline]

theorem exec_holdExpiry_of_due (hdue : holdDue s n = true) : exec (.holdExpiry n) s = .next (expireHold n s) :=
  congrArg Host.Outcome.next (if_pos hdue)

theorem exec_holdExpiry_of_not_due (hdue : ¬ holdDue s n = true) : exec (.holdExpiry n) s = .next s :=
  congrArg Host.Outcome.next (if_neg hdue)

/-- The parts of a HELD slot's close, in their order; no give is among them (R10, R100, R103). -/
theorem closeHeld_parts (code : CloseCode) (rep : FallReport) (n : SlotNo) (s : State) :
    ∃ a b c, LeftQueue n s a ∧ Owes .answering (.close code) n a b ∧ PagesFreed n b c ∧
      Fell rep (s.slot n).domain c (closeHeld code rep n s) :=
  ⟨_, _, _, leaveHoldQueue_left s n, owe_owes _ _ _ _, releasePages_freed _ n, leaveActive_fell_by _ _ _⟩

/-! ## Deadline table records (R96, R97) -/

variable {b : Batch} {k : Selector} {value : List Byte}

/-- A record row whose rule answers a known ruling leaves that ruling's state, with the head batch past the record. -/
theorem takeRecord_of_ruling {op : RecordOp} {rule : Record → State → Ruling} {table index : Nat} {code : Byte}
    {kind : RecordKind} {x : Ruling} (hat : AtRecord s b table index code value)
    (hkind : RecordKind.ofCode code = some kind)
    (howner : Record.owner { table := table, index := index, kind := kind, value := value } = some op)
    (hx : rule { table := table, index := index, kind := kind, value := value } s = x) :
    takeRecord op rule s = x.state.withHead (b.afterRecord table index value x.status x.data) := by
  subst hx
  exact takeRecord_atRecord rule hat hkind howner

/-- A record whose index its table does not have belongs to no rule (R136). -/
theorem owner_eq_none_of_index {table index : Nat} {kind : RecordKind} (hindex : tableSize table ≤ index) :
    Record.owner { table := table, index := index, kind := kind, value := value } = none :=
  if_neg (Nat.not_lt.mpr hindex)

/-- The keyed record of a kind addressed to deadline table entry k (R133). -/
def deadlineRecord (kind : RecordKind) (k : Selector) (value : List Byte) : Record :=
  { table := 5, index := k.toNat, kind := kind, value := value }

theorem exec_deadlineWrite_of_ruling {x : Ruling} (hat : AtRecord s b 5 k.toNat 2 value)
    (hx : ruleDeadlineWrite (deadlineRecord .write k value) s = x) :
    exec .deadlineWrite s = .next (x.state.withHead (b.afterRecord 5 k.toNat value x.status x.data)) :=
  congrArg Host.Outcome.next (takeRecord_of_ruling hat rfl (owner_of_index k.isLt) hx)

theorem exec_deadlineRead_of_ruling {x : Ruling} (hat : AtRecord s b 5 k.toNat 1 value)
    (hx : ruleDeadlineRead (deadlineRecord .read k value) s = x) :
    exec .deadlineRead s = .next (x.state.withHead (b.afterRecord 5 k.toNat value x.status x.data)) :=
  congrArg Host.Outcome.next (takeRecord_of_ruling hat rfl (owner_of_index k.isLt) hx)

/-- The two bytes of a duration, joined again, are the duration. -/
theorem append_twoBytes (d : BitVec 16) : BitVec.ofNat 8 (d.toNat / 256) ++ BitVec.ofNat 8 d.toNat = d :=
  BitVec.eq_of_toNat_eq (readTwo_twoBytes d.isLt)

theorem selector_toNat_eq_zero_iff : k.toNat = 0 ↔ k = 0 := by
  simp [← BitVec.toNat_inj]

/-- A two-byte WRITE sets every entry but entry 0 (R96). -/
theorem ruleDeadlineWrite_twoBytes (d : BitVec 16) : ruleDeadlineWrite (deadlineRecord .write k (twoBytes d.toNat)) s =
    if k = 0 then ruledRefused s .wrongState else ruledDone (s.setDeadline k d) := by
  simp only [ruleDeadlineWrite, deadlineRecord, twoBytes, append_twoBytes, BitVec.ofNat_toNat 4 k, BitVec.setWidth_eq,
    selector_toNat_eq_zero_iff]

theorem ruleDeadlineWrite_badValue (hlength : value.length ≠ 2) :
    ruleDeadlineWrite (deadlineRecord .write k value) s = ruledRefused s .badValue := by
  match value, hlength with
  | [_, _], hlength => exact absurd rfl hlength
  | [], _ | [_], _ | _ :: _ :: _ :: _, _ => rfl

theorem ruleDeadlineRead_nil :
    ruleDeadlineRead (deadlineRecord .read k []) s = ruledRead s (twoBytes (s.deadline k).toNat) := by
  simp only [ruleDeadlineRead, deadlineRecord, ne_eq, not_true_eq_false, if_false, BitVec.ofNat_toNat, BitVec.setWidth_eq]

theorem ruleDeadlineRead_badValue (hvalue : value ≠ []) :
    ruleDeadlineRead (deadlineRecord .read k value) s = ruledRefused s .badValue :=
  if_pos hvalue

end Sys2Proof.Machine

namespace Sys2Proof.Proofs

open Sys2Proof.Machine

/-- Settles O19: a WITHDRAW of an enabled source fails no check, and the rule finds the tag index and the slot as they
were before the packet was taken. -/
theorem withdrawRefusedElsewhere : Obligations.WithdrawRefusedElsewhere := by
  intro p s hold hcode henabled
  refine ⟨fun htag => ?notFound, fun n htag hserving => ?inService, fun n htag howing => ?answered⟩
  case notFound =>
    exact exec_withdraw_refused hold hcode henabled (ruleWithdraw_of_untagged htag) (by decide) (by decide) (by decide)
  case inService =>
    exact exec_withdraw_refused hold hcode henabled (ruleWithdraw_of_serving htag hserving)
      (by decide) (by decide) (by decide)
  case answered =>
    exact exec_withdraw_refused hold hcode henabled (ruleWithdraw_of_owing htag howing)
      (by decide) (by decide) (by decide)

/-- Settles O26: the expiry is due exactly at a HELD slot whose deadline has run its duration, and the parts of the close
then follow the count at the gate, which changes no slot. -/
theorem holdDeadlineExpires : Obligations.HoldDeadlineExpires := by
  intro n s
  refine ⟨fun d hheld hdeadline hreached => ?due, fun hfails => exec_holdExpiry_of_not_due fun hdue => ?notDue⟩
  case due =>
    have hdue : holdDue s n = true := holdDue_iff.mpr ⟨hheld, d, hdeadline, hreached⟩
    obtain ⟨a, b, c, hleft, howes, hfreed, hfell⟩ := closeHeld_parts .expired .atOnce n
      (modifyGate (s.slot n).takeGate (fun g => { g with expiries := g.expiries + 1 }) s)
    exact ⟨a, b, c, _, exec_holdExpiry_of_due hdue, hleft, howes, hfreed, hfell⟩
  case notDue =>
    obtain ⟨hheld, d, hdeadline, hreached⟩ := holdDue_iff.mp hdue
    rcases hfails with hother | hnone | ⟨d', hdeadline', hrunning⟩
    · exact hother hheld
    · simp [hdeadline] at hnone
    · obtain rfl : d = d' := Option.some.inj (hdeadline.symm.trans hdeadline')
      omega

/-- Settles O42: a WRITE is ruled by its value's length and then by whether its entry is entry 0, a READ by whether it has
a value, and no rule owns an index above 15. -/
theorem deadlineRecords : Obligations.DeadlineRecords := by
  refine ⟨fun b k value s hat => ⟨fun d hvalue => ?write, fun hlength => ?writeBad⟩,
    fun b k value s hat => ⟨fun hvalue => ?read, fun hvalue hzero hunlimited => ?readZero, fun hvalue => ?readBad⟩,
    fun b index code value s hat hcode hindex => ?badKey⟩
  case write =>
    subst hvalue
    exact ⟨fun hk => exec_deadlineWrite_of_ruling hat ((ruleDeadlineWrite_twoBytes d).trans (if_neg hk)),
      fun hk => exec_deadlineWrite_of_ruling hat ((ruleDeadlineWrite_twoBytes d).trans (if_pos hk))⟩
  case writeBad => exact exec_deadlineWrite_of_ruling hat (ruleDeadlineWrite_badValue hlength)
  case read =>
    subst hvalue
    exact exec_deadlineRead_of_ruling hat ruleDeadlineRead_nil
  case readZero =>
    subst hvalue hzero
    have hbytes : twoBytes (s.deadline 0).toNat = [0, 0] := by
      rw [show s.deadline 0 = 0 from hunlimited]
      rfl
    exact hbytes ▸ exec_deadlineRead_of_ruling hat ruleDeadlineRead_nil
  case readBad => exact exec_deadlineRead_of_ruling hat (ruleDeadlineRead_badValue hvalue)
  case badKey =>
    have howner {kind : RecordKind} : Record.owner { table := 5, index := index, kind := kind, value := value } = none :=
      owner_eq_none_of_index hindex
    rcases hcode with hread | hwrite
    · exact exec_badKey_of_unowned hat (congrArg _ hread) howner
    · exact exec_badKey_of_unowned hat (congrArg _ hwrite) howner

end Sys2Proof.Proofs

/-! Source entries and domain descriptors (R147, R150, R151, R156): the READ of a source, the WRITE, READ and REOPEN of a
domain, each by its ruling in every outcome, and the obligations that state them. -/

namespace Sys2Proof.Machine

variable {s : State} {b : Batch} {value : List Byte}

/-! ## The READ of a source (R147) -/

section SourceRead

variable {i : SourceNo}

theorem readView_two_eq_zero (hview : value = [] ∨ value = [0]) : readView 2 value = some 0 :=
  (readView_iff (by decide) (by decide)).mpr (hview.imp (fun hnil => ⟨hnil, rfl⟩) (fun hzero => ⟨by decide, hzero⟩))

theorem readView_two_eq_one (hview : value = [1]) : readView 2 value = some 1 :=
  (readView_iff (by decide) (by decide)).mpr (.inr ⟨by decide, hview⟩)

/-- A value that names neither view is not read. -/
theorem readView_two_eq_none (hnil : value ≠ []) (hzero : value ≠ [0]) (hone : value ≠ [1]) : readView 2 value = none := by
  refine Option.eq_none_iff_forall_ne_some.mpr fun view hread => ?_
  rcases (readView_iff (by decide) (by decide)).mp hread with ⟨hvalue, -⟩ | ⟨hbound, hvalue⟩
  · exact hnil hvalue
  · match view, hbound with
    | 0, _ => exact hzero hvalue
    | 1, _ => exact hone hvalue

/-- The keyed record of a READ addressed to source i (R133). -/
def sourceReadRecord (i : SourceNo) (value : List Byte) : Record :=
  { table := 1, index := i.toNat, kind := .read, value := value }

theorem ruleSourceRead_badValue (hview : readView 2 value = none) :
    ruleSourceRead (sourceReadRecord i value) s = ruledRefused s .badValue := by
  simp only [ruleSourceRead, sourceReadRecord, hview]

/-- A faulted entry shows neither view. -/
theorem ruleSourceRead_faulted {view : Nat} (hview : readView 2 value = some view)
    (hcode : (s.source i).codeMatches = false) :
    ruleSourceRead (sourceReadRecord i value) s = ruledRefused s .faulted := by
  simp only [ruleSourceRead, sourceReadRecord, hview, BitVec.ofNat_toNat, BitVec.setWidth_eq]
  exact if_pos hcode

/-- View 0 is the entry's contents and its outstanding count. -/
theorem ruleSourceRead_contents (hview : readView 2 value = some 0) (hcode : (s.source i).codeMatches = true) :
    ruleSourceRead (sourceReadRecord i value) s =
      ruledRead s ([sourceStateCode (s.source i).state, classCode (s.source i).cls] ++ twoBytes (s.source i).limit ++
        twoBytes (s.source i).outstanding) := by
  simp only [ruleSourceRead, sourceReadRecord, hview, BitVec.ofNat_toNat, BitVec.setWidth_eq, hcode, Bool.true_eq_false,
    if_false, if_true]

/-- View 1 is the entry's two counters. -/
theorem ruleSourceRead_counters (hview : readView 2 value = some 1) (hcode : (s.source i).codeMatches = true) :
    ruleSourceRead (sourceReadRecord i value) s =
      ruledRead s (fourBytes (s.source i).admitted ++ fourBytes (s.source i).refused) := by
  simp only [ruleSourceRead, sourceReadRecord, hview, BitVec.ofNat_toNat, BitVec.setWidth_eq, hcode, Bool.true_eq_false,
    if_false, one_ne_zero]

theorem exec_sourceRead_of_ruling {x : Ruling} (hat : AtRecord s b 1 i.toNat 1 value)
    (hx : ruleSourceRead (sourceReadRecord i value) s = x) :
    exec .sourceRead s = .next (x.state.withHead (b.afterRecord 1 i.toNat value x.status x.data)) :=
  congrArg Host.Outcome.next (takeRecord_of_ruling hat rfl (owner_of_index i.isLt) hx)

end SourceRead

/-! ## The WRITE of a domain (R151) -/

variable {d : DomainNo}

/-- The keyed record of a kind addressed to domain d (R133). -/
def domainRecord (kind : RecordKind) (d : DomainNo) (value : List Byte) : Record :=
  { table := 2, index := d.toNat, kind := kind, value := value }

section DomainWrite

variable {valid : Bool} {base size : Nat}

/-- A domain descriptor after a WRITE reported DONE. -/
def DomainEntry.written (x : DomainEntry) (valid : Bool) (base size : Nat) : DomainEntry :=
  { x with valid := valid, base := base, size := size, state := .closed, mode := none, codeMatches := true }

theorem writeBlocked_iff {x : DomainEntry} : x.writeBlocked = true ↔
    (x.codeMatches = true ∧ x.state ≠ .closed) ∨ (x.codeMatches = false ∧ 0 < x.active) := by
  cases hcode : x.codeMatches with
  | true => cases hstate : x.state <;> simp [DomainEntry.writeBlocked, hcode, hstate]
  | false => simp [DomainEntry.writeBlocked, hcode]

/-- A WRITE is taken by an unfaulted CLOSED descriptor and by a faulted one without active slots. -/
theorem not_writeBlocked {x : DomainEntry}
    (hopen : (x.codeMatches = true ∧ x.state = .closed) ∨ (x.codeMatches = false ∧ x.active = 0)) :
    ¬ x.writeBlocked = true := by
  rw [writeBlocked_iff]
  rcases hopen with ⟨hcode, hclosed⟩ | ⟨hcode, hactive⟩
  · simp [hcode, hclosed]
  · simp [hcode, hactive]

/-- Two ranges meet exactly when they share an index: the greater of the two bases is one. -/
theorem rangesMeet_iff {base' size' : Nat} : rangesMeet base size base' size' = true ↔
    ∃ i, base ≤ i ∧ i < base + size ∧ base' ≤ i ∧ i < base' + size' := by
  rw [rangesMeet, decide_eq_true_iff]
  constructor
  · intro hmeet
    exact ⟨max base base', by omega, by omega, by omega, by omega⟩
  · rintro ⟨i, hlow, hhigh, hlow', hhigh'⟩
    omega

/-- A search through the numbers below 2^w is a search through the words of w bits. -/
theorem any_range_two_pow_iff {w : Nat} {f : Nat → Bool} :
    (List.range (2 ^ w)).any f = true ↔ ∃ x : BitVec w, f x.toNat = true := by
  simp only [List.any_eq_true, List.mem_range]
  constructor
  · rintro ⟨n, hlt, hf⟩
    exact ⟨BitVec.ofNatLT n hlt, hf⟩
  · rintro ⟨x, hf⟩
    exact ⟨x.toNat, x.isLt, hf⟩

theorem overlaps_iff : overlaps s d base size = true ↔
    2048 < base + size ∨ ∃ e, e ≠ d ∧ (s.domain e).valid = true ∧
      ∃ i, base ≤ i ∧ i < base + size ∧ (s.domain e).base ≤ i ∧ i < (s.domain e).base + (s.domain e).size := by
  have hothers := any_range_two_pow_iff (w := 2) (f := fun j =>
    j != d.toNat && (s.domains.get DomainEntry.reset j).valid &&
      rangesMeet base size (s.domains.get DomainEntry.reset j).base (s.domains.get DomainEntry.reset j).size)
  simp only [Bool.and_eq_true, bne_iff_ne, ne_eq, BitVec.toNat_inj, rangesMeet_iff, and_assoc] at hothers
  rw [overlaps, Bool.or_eq_true, decide_eq_true_iff]
  exact or_congr Iff.rfl hothers

/-- The obligation's last clause speaks of layouts, the rule of its reader: they name the same values. -/
theorem readDomainValue_eq_none_iff : readDomainValue value = none ↔
    ∀ (valid : Bool) (base size : Nat), base ≤ 2047 → 1 ≤ size → size ≤ 1024 → value ≠ domainValue valid base size := by
  simp only [Option.eq_none_iff_forall_ne_some, Prod.forall, ne_eq, readDomainValue_iff, not_and]

theorem ruleDomainWrite_badValue (hread : readDomainValue value = none) :
    ruleDomainWrite (domainRecord .write d value) s = ruledRefused s .badValue := by
  simp only [ruleDomainWrite, domainRecord, hread]

/-- The checks of a WRITE whose value is read, in their order. -/
theorem ruleDomainWrite_of_value (hread : readDomainValue value = some (valid, base, size)) :
    ruleDomainWrite (domainRecord .write d value) s =
      if (s.domain d).writeBlocked then ruledRefused s .wrongState
      else if valid && overlaps s d base size then ruledRefused s .overlap
      else ruledDone (s.setDomain d ((s.domain d).written valid base size)) := by
  simp only [ruleDomainWrite, domainRecord, hread, BitVec.ofNat_toNat, BitVec.setWidth_eq, modifyDomain_eq,
    DomainEntry.written]

theorem exec_domainWrite_of_ruling {x : Ruling} (hat : AtRecord s b 2 d.toNat 2 value)
    (hx : ruleDomainWrite (domainRecord .write d value) s = x) :
    exec .domainWrite s = .next (x.state.withHead (b.afterRecord 2 d.toNat value x.status x.data)) :=
  congrArg Host.Outcome.next (takeRecord_of_ruling hat rfl (owner_of_index d.isLt) hx)

end DomainWrite

/-! ## The READ of a domain (R150) -/

theorem ruleDomainRead_badValue (hvalue : value ≠ []) :
    ruleDomainRead (domainRecord .read d value) s = ruledRefused s .badValue :=
  if_pos hvalue

/-- A READ without value turns on the descriptor's check code alone. -/
theorem ruleDomainRead_nil : ruleDomainRead (domainRecord .read d []) s =
    if (s.domain d).codeMatches = false then ruledRefused s .faulted
    else ruledRead s ([domainStateCode (s.domain d).state, yesNo (s.domain d).valid] ++ twoBytes (s.domain d).base ++
      twoBytes (s.domain d).size ++ twoBytes (s.domain d).active ++ [drainModeCode (s.domain d).mode]) := by
  simp only [ruleDomainRead, domainRecord, ne_eq, not_true_eq_false, if_false, BitVec.ofNat_toNat, BitVec.setWidth_eq]

theorem exec_domainRead_of_ruling {x : Ruling} (hat : AtRecord s b 2 d.toNat 1 value)
    (hx : ruleDomainRead (domainRecord .read d value) s = x) :
    exec .domainRead s = .next (x.state.withHead (b.afterRecord 2 d.toNat value x.status x.data)) :=
  congrArg Host.Outcome.next (takeRecord_of_ruling hat rfl (owner_of_index d.isLt) hx)

/-! ## REOPEN (R156) -/

theorem reopenable_iff {x : DomainEntry} :
    x.reopenable = true ↔ x.valid = true ∧ x.codeMatches = true ∧ x.state = .closed := by
  simp only [DomainEntry.reopenable, Bool.and_eq_true, decide_eq_true_iff, and_assoc]

theorem ruleReopen_badValue (hvalue : value ≠ []) :
    ruleReopen (domainRecord .reopen d value) s = ruledRefused s .badValue :=
  if_pos hvalue

/-- A REOPEN without value turns on the descriptor's validity, check code and state. -/
theorem ruleReopen_nil : ruleReopen (domainRecord .reopen d []) s =
    if (s.domain d).reopenable then
      ruledDone (s.setDomain d { s.domain d with state := .opened, codeMatches := true })
    else ruledRefused s .wrongState := by
  simp only [ruleReopen, domainRecord, ne_eq, not_true_eq_false, if_false, BitVec.ofNat_toNat, BitVec.setWidth_eq,
    modifyDomain_eq]

theorem exec_reopen_of_ruling {x : Ruling} (hat : AtRecord s b 2 d.toNat 5 value)
    (hx : ruleReopen (domainRecord .reopen d value) s = x) :
    exec .reopen s = .next (x.state.withHead (b.afterRecord 2 d.toNat value x.status x.data)) :=
  congrArg Host.Outcome.next (takeRecord_of_ruling hat rfl (owner_of_index d.isLt) hx)

end Sys2Proof.Machine

namespace Sys2Proof.Proofs

open Sys2Proof.Machine

/-- Settles O34: the value names a view or none, and an entry whose check code differs shows neither view. -/
theorem sourceReadReturnsViews : Obligations.SourceReadReturnsViews := by
  intro b i value s hat
  refine ⟨fun hvalue hcode => ?contents, fun hvalue hcode => ?counters, fun hvalue hcode => ?faulted,
    fun hnil hzero hone => ?badValue⟩
  case contents => exact exec_sourceRead_of_ruling hat (ruleSourceRead_contents (readView_two_eq_zero hvalue) hcode)
  case counters => exact exec_sourceRead_of_ruling hat (ruleSourceRead_counters (readView_two_eq_one hvalue) hcode)
  case faulted =>
    have hview : ∃ view, readView 2 value = some view := by
      rcases hvalue with hnil | hzero | hone
      · exact ⟨0, readView_two_eq_zero (.inl hnil)⟩
      · exact ⟨0, readView_two_eq_zero (.inr hzero)⟩
      · exact ⟨1, readView_two_eq_one hone⟩
    obtain ⟨view, hview⟩ := hview
    exact exec_sourceRead_of_ruling hat (ruleSourceRead_faulted hview hcode)
  case badValue =>
    exact exec_sourceRead_of_ruling hat (ruleSourceRead_badValue (readView_two_eq_none hnil hzero hone))

/-- Settles O35: a value is read back exactly when it is laid out by R175, the descriptor's own state is checked before
the ranges, and two ranges meet exactly when they share an index. -/
theorem domainWriteChecksAndStores : Obligations.DomainWriteChecksAndStores := by
  intro b d value s hat
  refine ⟨fun valid base size hbase hlow hhigh hlaid => ?laid, fun hbad => ?badValue⟩
  case badValue =>
    exact exec_domainWrite_of_ruling hat (ruleDomainWrite_badValue (readDomainValue_eq_none_iff.mpr hbad))
  case laid =>
    have hruling := ruleDomainWrite_of_value (s := s) (d := d) (readDomainValue_iff.mpr ⟨hbase, hlow, hhigh, hlaid⟩)
    refine ⟨fun hblocked => ?wrongState, fun htakes => ⟨fun hmeets => ?overlap, fun hclear => ?stored⟩⟩
    case wrongState =>
      exact exec_domainWrite_of_ruling hat (hruling.trans (if_pos (writeBlocked_iff.mpr hblocked)))
    case overlap =>
      obtain ⟨hvalid, hmeets⟩ := hmeets
      have hoverlap : (valid && overlaps s d base size) = true := Bool.and_eq_true_iff.mpr ⟨hvalid, overlaps_iff.mpr hmeets⟩
      rw [if_neg (not_writeBlocked htakes), if_pos hoverlap] at hruling
      exact exec_domainWrite_of_ruling hat hruling
    case stored =>
      have hfree : ¬ (valid && overlaps s d base size) = true := by
        rw [Bool.and_eq_true, overlaps_iff]
        rintro ⟨hvalid, hpast | ⟨e, hne, hother, hshared⟩⟩
        · rcases hclear with hinvalid | ⟨hfits, -⟩
          · simp [hvalid] at hinvalid
          · omega
        · rcases hclear with hinvalid | ⟨-, hapart⟩
          · simp [hvalid] at hinvalid
          · exact hapart e hne hother hshared
      rw [if_neg (not_writeBlocked htakes), if_neg hfree] at hruling
      exact exec_domainWrite_of_ruling hat hruling

/-- Settles O36: each record is ruled by whether it has a value, and then a READ by the check code of the descriptor, a
REOPEN by its validity, check code and state. -/
theorem domainReadAndReopen : Obligations.DomainReadAndReopen := by
  refine ⟨fun b d value s hat => ⟨fun hvalue hcode => ?read, fun hvalue hcode => ?faulted, fun hvalue => ?readBad⟩,
    fun b d value s hat => ⟨fun hvalue hvalid hcode hclosed => ?reopened, fun hvalue hfails => ?wrongState,
      fun hvalue => ?reopenBad⟩⟩
  case read =>
    subst hvalue
    exact exec_domainRead_of_ruling hat (ruleDomainRead_nil.trans (if_neg (by simp [hcode])))
  case faulted =>
    subst hvalue
    exact exec_domainRead_of_ruling hat (ruleDomainRead_nil.trans (if_pos hcode))
  case readBad => exact exec_domainRead_of_ruling hat (ruleDomainRead_badValue hvalue)
  case reopened =>
    subst hvalue
    have hreopens := reopenable_iff.mpr ⟨hvalid, hcode, hclosed⟩
    exact exec_reopen_of_ruling hat (ruleReopen_nil.trans (if_pos hreopens))
  case wrongState =>
    subst hvalue
    have hstays : ¬ (s.domain d).reopenable = true := by
      rw [reopenable_iff]
      rintro ⟨hvalid, hcode, hclosed⟩
      rcases hfails with hinvalid | hfaulted | hother
      · simp [hvalid] at hinvalid
      · simp [hcode] at hfaulted
      · exact hother hclosed
    exact exec_reopen_of_ruling hat (ruleReopen_nil.trans (if_neg hstays))
  case reopenBad => exact exec_reopen_of_ruling hat (ruleReopen_badValue hvalue)

end Sys2Proof.Proofs

/-! Packet headers and management records as bytes (R172, R174): the fields and the bytes of a built header, the header
rebuilt from its fields, what stands at a position of a batch, and the obligations that state them. -/

namespace Sys2Proof.Packet

/-! ## Fill bits (R172) -/

section Fill

variable {p : Packet}

theorem serviceFillZero_iff : p.serviceFillZero = true ↔
    p.b0.extractLsb' 0 2 = 0#2 ∧ p.b1.extractLsb' 6 2 = 0#2 ∧ p.b3.extractLsb' 2 4 = 0#4 := by
  simp [serviceFillZero, and_assoc]

theorem initiatorFillZero_iff : p.initiatorFillZero = true ↔
    p.b0.extractLsb' 0 2 = 0#2 ∧ p.b1.extractLsb' 6 2 = 0#2 ∧ p.b3.extractLsb' 2 6 = 0#6 := by
  simp [initiatorFillZero, and_assoc]

end Fill

/-! ## The fields of a built header (R172) -/

section Build

variable (kind : BitVec 4) (domain : DomainNo) (source : SourceNo) (byte2 : Byte) (tagHigh : BitVec 2)
  (stream : StreamNo) (specific : Byte) (payload : List Byte)

@[simp] theorem build_kindCode : (build kind domain source byte2 tagHigh stream specific payload).kindCode = kind := by
  rw [kindCode, build, BitVec.extractLsb'_append_eq_of_le (by decide), BitVec.extractLsb'_append_eq_left]

@[simp] theorem build_domain : (build kind domain source byte2 tagHigh stream specific payload).domain = domain := by
  rw [Packet.domain, build, BitVec.extractLsb'_append_eq_of_le (by decide), BitVec.extractLsb'_append_eq_right]

@[simp] theorem build_source : (build kind domain source byte2 tagHigh stream specific payload).source = source :=
  BitVec.extractLsb'_append_eq_right

@[simp] theorem build_trackingTag :
    (build kind domain source byte2 tagHigh stream specific payload).trackingTag = tagHigh ++ byte2 := by
  rw [trackingTag, build, BitVec.extractLsb'_append_eq_of_le (by decide), BitVec.extractLsb'_append_eq_left]

@[simp] theorem build_stream : (build kind domain source byte2 tagHigh stream specific payload).stream = stream := by
  rw [Packet.stream, build, BitVec.extractLsb'_append_eq_right,
    BitVec.extractLsb'_append_extractLsb'_eq_extractLsb' (by decide), BitVec.extractLsb'_eq_self]

theorem build_lengthField (hshort : payload.length < 65536) :
    (build kind domain source byte2 tagHigh stream specific payload).lengthField = payload.length :=
  Machine.readTwo_twoBytes hshort

theorem build_serviceFillZero :
    (build kind domain source byte2 tagHigh stream specific payload).serviceFillZero = true := by
  refine serviceFillZero_iff.mpr ⟨BitVec.extractLsb'_append_eq_right, BitVec.extractLsb'_append_eq_left, ?_⟩
  rw [build, BitVec.extractLsb'_append_eq_of_le (by decide)]
  exact BitVec.extractLsb'_append_eq_right

/-- On the initiator link the place of the tracking tag's high bits is fill as well. -/
theorem build_initiatorFillZero : (build kind domain source byte2 0 stream specific payload).initiatorFillZero = true :=
  initiatorFillZero_iff.mpr ⟨BitVec.extractLsb'_append_eq_right, BitVec.extractLsb'_append_eq_left,
    BitVec.extractLsb'_append_eq_left (a := 0#2 ++ 0#4)⟩

/-! ## The bytes of a built header as numbers (R172) -/

/-- A bit field over a lower one is worth its number times the lower one's range. -/
theorem toNat_append_eq {m n : Nat} (hi : BitVec m) (lo : BitVec n) : (hi ++ lo).toNat = hi.toNat * 2 ^ n + lo.toNat := by
  rw [BitVec.toNat_append, ← Nat.shiftLeft_add_eq_or_of_lt lo.isLt, Nat.shiftLeft_eq]

theorem toNat_high_of_ten (x : BitVec 10) : (x.extractLsb' 8 2).toNat = x.toNat / 256 := by
  rw [BitVec.extractLsb'_toNat, Nat.shiftRight_eq_div_pow]
  omega

theorem toNat_low_of_ten (x : BitVec 10) : (x.extractLsb' 0 8).toNat = x.toNat % 256 :=
  BitVec.extractLsb'_toNat 0 8 x

theorem high_append_low_of_ten (x : BitVec 10) : x.extractLsb' 8 2 ++ x.extractLsb' 0 8 = x := by
  rw [BitVec.extractLsb'_append_extractLsb'_eq_extractLsb' (by decide), BitVec.extractLsb'_eq_self]

theorem high_eq_zero_of_lt {x : BitVec 10} (hsmall : x.toNat < 256) : x.extractLsb' 8 2 = 0 :=
  BitVec.eq_of_toNat_eq ((toNat_high_of_ten x).trans (Nat.div_eq_of_lt hsmall))

theorem build_b0_toNat :
    (build kind domain source byte2 tagHigh stream specific payload).b0.toNat = kind.toNat * 16 + domain.toNat * 4 := by
  simp only [build, toNat_append_eq, BitVec.ofNat_eq_ofNat, BitVec.toNat_ofNat]
  omega

theorem build_b1_toNat : (build kind domain source byte2 tagHigh stream specific payload).b1.toNat = source.toNat := by
  simp only [build, toNat_append_eq, BitVec.ofNat_eq_ofNat, BitVec.toNat_ofNat]
  omega

theorem build_b3_toNat : (build kind domain source byte2 tagHigh stream specific payload).b3.toNat =
    tagHigh.toNat * 64 + stream.toNat / 256 := by
  simp only [build, toNat_append_eq, toNat_high_of_ten, BitVec.ofNat_eq_ofNat, BitVec.toNat_ofNat]
  omega

theorem build_b5_toNat (hshort : payload.length < 65536) :
    (build kind domain source byte2 tagHigh stream specific payload).b5.toNat = payload.length / 256 :=
  Nat.mod_eq_of_lt (Nat.div_lt_of_lt_mul hshort)

end Build

/-! ## The header rebuilt from its fields (R172) -/

section Rebuild

variable {p : Packet}

/-- Byte 0 is its kind, its domain and its fill bits. -/
theorem b0_eq_of_fill (hfill : p.b0.extractLsb' 0 2 = 0#2) : p.kindCode ++ p.domain ++ 0#2 = p.b0 := by
  rw [kindCode, domain, ← hfill, BitVec.extractLsb'_append_extractLsb'_eq_extractLsb' (by decide),
    BitVec.extractLsb'_append_extractLsb'_eq_extractLsb' (by decide), BitVec.extractLsb'_eq_self]

/-- Byte 1 is its fill bits and its source. -/
theorem b1_eq_of_fill (hfill : p.b1.extractLsb' 6 2 = 0#2) : 0#2 ++ p.source = p.b1 := by
  rw [source, ← hfill, BitVec.extractLsb'_append_extractLsb'_eq_extractLsb' (by decide), BitVec.extractLsb'_eq_self]

/-- Byte 3 is the high bits of the tracking tag, its fill bits and the high bits of the stream. -/
theorem b3_eq_of_fill (hfill : p.b3.extractLsb' 2 4 = 0#4) :
    p.b3.extractLsb' 6 2 ++ 0#4 ++ p.stream.extractLsb' 8 2 = p.b3 := by
  rw [stream, BitVec.extractLsb'_append_eq_left, ← hfill, BitVec.extractLsb'_append_extractLsb'_eq_extractLsb' (by decide),
    BitVec.extractLsb'_append_extractLsb'_eq_extractLsb' (by decide), BitVec.extractLsb'_eq_self]

/-- A packet with zero fill bits and a true length field is the one built from its fields over byte 2 and the two high
bits of byte 3. -/
theorem build_eq_of_serviceFill (hfill : p.serviceFillZero = true) (hlength : p.payload.length = p.lengthField) :
    build p.kindCode p.domain p.source p.b2 (p.b3.extractLsb' 6 2) p.stream p.specific p.payload = p := by
  obtain ⟨hfill0, hfill1, hfill3⟩ := serviceFillZero_iff.mp hfill
  have hlow : p.stream.extractLsb' 0 8 = p.b4 := BitVec.extractLsb'_append_eq_right
  have hbytes : Machine.twoBytes p.payload.length = [p.b5, p.b6] := by
    rw [hlength]
    exact Machine.twoBytes_readTwo p.b5 p.b6
  obtain ⟨hb5, hb6⟩ : BitVec.ofNat 8 (p.payload.length / 256) = p.b5 ∧ BitVec.ofNat 8 p.payload.length = p.b6 := by
    simpa [Machine.twoBytes] using hbytes
  simp only [build, BitVec.ofNat_eq_ofNat, b0_eq_of_fill hfill0, b1_eq_of_fill hfill1, b3_eq_of_fill hfill3, hlow, hb5,
    hb6, specific]

/-- The six fill bits of byte 3 on the initiator link are the tracking tag's high bits and the fill of the service link. -/
theorem initiatorFill_split {b : Byte} (hfill : b.extractLsb' 2 6 = 0#6) :
    b.extractLsb' 6 2 = 0#2 ∧ b.extractLsb' 2 4 = 0#4 := by
  have hsplit : b.extractLsb' 6 2 ++ b.extractLsb' 2 4 = 0#2 ++ 0#4 :=
    (BitVec.extractLsb'_append_extractLsb'_eq_extractLsb' (by decide)).trans hfill
  exact ⟨by simpa only [BitVec.extractLsb'_append_eq_left] using congrArg (BitVec.extractLsb' 4 2) hsplit,
    by simpa only [BitVec.extractLsb'_append_eq_right] using congrArg (BitVec.extractLsb' 0 4) hsplit⟩

theorem build_eq_of_initiatorFill (hfill : p.initiatorFillZero = true) (hlength : p.payload.length = p.lengthField) :
    build p.kindCode p.domain p.source p.tag 0 p.stream p.specific p.payload = p := by
  obtain ⟨hfill0, hfill1, hfill3⟩ := initiatorFillZero_iff.mp hfill
  obtain ⟨hhigh, hmiddle⟩ := initiatorFill_split hfill3
  have hservice := build_eq_of_serviceFill (serviceFillZero_iff.mpr ⟨hfill0, hfill1, hmiddle⟩) hlength
  rwa [hhigh] at hservice

end Rebuild

end Sys2Proof.Packet

namespace Sys2Proof.Machine

variable {position table index : Nat} {first kindByte len : Byte} {value later : List Byte}

/-! ## The codes of the record kinds (R174) -/

/-- The code of a record kind, by the list of R174. -/
def RecordKind.code : RecordKind → Byte
  | .read => 1
  | .write => 2
  | .setAllowance => 3
  | .drain => 4
  | .reopen => 5
  | .reclaim => 6
  | .acknowledge => 7
  | .dispatch => 8
  | .restart => 9

theorem RecordKind.ofCode_code (kind : RecordKind) : RecordKind.ofCode kind.code = some kind := by
  cases kind <;> rfl

/-- The codes 1 to 9 are the only ones that name a kind. -/
theorem RecordKind.ofCode_eq_none_iff : RecordKind.ofCode kindByte = none ↔ kindByte = 0 ∨ 10 ≤ kindByte.toNat := by
  revert kindByte
  decide

/-! ## What stands at a position (R134) -/

theorem findRecord_end : findRecord position (0xFF :: later) = .endMarker := by
  rw [findRecord, if_pos rfl]

theorem findRecord_past_last (hfirst : first ≠ 0xFF) : findRecord 32 (first :: later) = .missingEnd :=
  (if_neg hfirst).trans (if_pos le_rfl)

/-- Below position 32, bytes that do not begin with END are read as a keyed record. -/
theorem findRecord_of_ne_end (hposition : position < 32) (hfirst : first ≠ 0xFF) :
    findRecord position (first :: later) = parseKeyed (first :: later) :=
  (if_neg hfirst).trans (if_neg (Nat.not_le.mpr hposition))

/-- A record's five bytes ahead of its value are not there. -/
theorem parseKeyed_of_short (hshort : later.length < 4) : parseKeyed (first :: later) = .malformed := by
  match later, hshort with
  | [], _ => rfl
  | [_], _ => rfl
  | [_, _], _ => rfl
  | [_, _, _], _ => rfl

theorem parseKeyed_of_unknown_kind {i1 i0 : Byte} (hcode : RecordKind.ofCode kindByte = none) :
    parseKeyed (first :: i1 :: i0 :: kindByte :: len :: later) = .malformed := by
  simp only [parseKeyed, hcode]

/-- A value that is too long or passes the end is malformed, whether or not the code names a kind. -/
theorem parseKeyed_of_bad_length {i1 i0 : Byte} (hlength : 16 < len.toNat ∨ later.length < len.toNat) :
    parseKeyed (first :: i1 :: i0 :: kindByte :: len :: later) = .malformed := by
  cases hcode : RecordKind.ofCode kindByte with
  | none => exact parseKeyed_of_unknown_kind hcode
  | some kind =>
    simp only [parseKeyed, hcode]
    exact if_pos hlength

/-- The table byte of a keyed record is not END. -/
theorem byteOf_table_ne_end (htable : table < 255) : byteOf table ≠ 0xFF := by
  intro hend
  have hnumber : table = 255 := (toNat_byteOf (by omega)).symm.trans (congrArg BitVec.toNat hend)
  omega

theorem findRecord_recordBytes_of_unknown_kind (htable : table < 255) (hposition : position < 32)
    (hcode : RecordKind.ofCode kindByte = none) :
    findRecord position (recordBytes table index kindByte value ++ later) = .malformed :=
  (findRecord_of_ne_end hposition (byteOf_table_ne_end htable)).trans (parseKeyed_of_unknown_kind hcode)

end Sys2Proof.Machine

namespace Sys2Proof.Proofs

open Sys2Proof.Machine

/-- Settles O30: a position is judged by its first byte, then by the position's number, and then by the kind code, the
value length and the bytes that are there. -/
theorem recordBytesParse : Obligations.RecordBytesParse := by
  refine ⟨fun table index position code value later htable hindex hposition hshort => ⟨fun kind hcode => ?keyed,
      fun hcode => ?unknownKind⟩, fun position later => findRecord_end, fun position => rfl,
    fun first later hfirst => findRecord_past_last hfirst, fun position first later hposition hfirst hshort => ?short,
    fun position first i1 i0 code len later hposition hfirst hlength => ?badLength⟩
  case keyed =>
    have hkind : code = kind.code := hcode
    exact findRecord_recordBytes later htable hindex hposition hshort (hkind ▸ kind.ofCode_code)
  case unknownKind =>
    exact findRecord_recordBytes_of_unknown_kind htable hposition (RecordKind.ofCode_eq_none_iff.mpr hcode)
  case short => exact (findRecord_of_ne_end hposition hfirst).trans (parseKeyed_of_short hshort)
  case badLength => exact (findRecord_of_ne_end hposition hfirst).trans (parseKeyed_of_bad_length hlength)

/-- Settles O51: each byte of the header is its fields side by side, so a field is a cut of its byte, and bytes whose
fill bits are zero are put together again from their cuts. -/
theorem headerFieldsRoundTrip : Obligations.HeaderFieldsRoundTrip := by
  refine ⟨fun kind domain source tag stream specific payload p hfits hbuilt => ?built, fun p hfill hlength => ?service,
    fun p hfill hlength => Packet.build_eq_of_initiatorFill hfill hlength⟩
  case built =>
    subst hbuilt
    have hshort : payload.length < 65536 := by omega
    refine ⟨Packet.build_b0_toNat .., Packet.build_b1_toNat .., Packet.toNat_low_of_ten tag, ?byte3,
      Packet.toNat_low_of_ten stream, Packet.build_b5_toNat (hshort := hshort) .., BitVec.toNat_ofNat .., rfl,
      Packet.build_kindCode .., Packet.build_domain .., Packet.build_source .., rfl, ?trackingTag, Packet.build_stream ..,
      Packet.build_lengthField (hshort := hshort) .., rfl, rfl, Packet.build_serviceFillZero .., fun hsmall => ?initiatorFill⟩
    case byte3 => rw [Packet.build_b3_toNat, Packet.toNat_high_of_ten]
    case trackingTag => rw [Packet.build_trackingTag, Packet.high_append_low_of_ten]
    case initiatorFill =>
      rw [Packet.high_eq_zero_of_lt hsmall]
      exact Packet.build_initiatorFillZero ..
  case service =>
    rw [Packet.trackingTag, BitVec.extractLsb'_append_eq_left, BitVec.extractLsb'_append_eq_right]
    exact Packet.build_eq_of_serviceFill hfill hlength

end Sys2Proof.Proofs

/-! The laws of the device together (R23, R24): they hold at reset, and a step can break them, since no law says that a
HELD AWAIT has no payload, and its release to ANSWERING leaves the payload in the record. -/

namespace Sys2Proof.Machine

/-- A table that lists entry 0 alone. -/
theorem Table.get_zero_only {α : Type} {w : Nat} (d v : α) (k : BitVec w) :
    Table.get d [(0, v)] k.toNat = if k = 0 then v else d := by
  by_cases hk : k = 0
  · subst hk
    simp [Table.get]
  · have hnumber : ¬ 0 = k.toNat := fun hzero => hk (BitVec.eq_of_toNat_eq (by simp [← hzero]))
    rw [if_neg hk, Table.get, if_neg hnumber, Table.get]

/-- A HELD AWAIT with a payload of one byte. No packet admits one (R41), and no law of the device excludes one. -/
def heldAwait : Slot :=
  { Slot.reset with state := .held, kind := .await, payloadLength := 1, payload := [0], pages := 1 }

/-- Slot 0 is the HELD AWAIT with a payload, alone in gate 0's hold queue, and the engine is at a SET ALLOWANCE of 1 to
that gate. -/
def heldAwaitState : State :=
  { State.reset with
    sources := [(0, { SourceEntry.strapManager with outstanding := 1 })]
    domains := [(0, { DomainEntry.reset with valid := true, state := .opened, active := 1 })]
    gates := [(0, { Gate.reset with valid := true, holdQueue := [0], references := 2 })]
    slots := [(0, heldAwait)]
    tagIndex := [(0, some 0)]
    freePages := 4095
    txPages := 1
    engine := .applying
    batches := [{ source := 0, tag := 0, bytes := recordBytes 4 0 3 [0, 1], position := 1, offset := 0, lastKey := none
                  stopped := false, entries := [], applied := 0 }]
    pending := [.setAllowance] }

theorem heldAwaitState_slot (n : SlotNo) : heldAwaitState.slot n = if n = 0 then heldAwait else Slot.reset :=
  Table.get_zero_only _ _ n

theorem heldAwaitState_gate (g : GateNo) : heldAwaitState.gate g =
    if g = 0 then { Gate.reset with valid := true, holdQueue := [0], references := 2 } else Gate.reset :=
  Table.get_zero_only _ _ g

theorem heldAwaitState_source (i : SourceNo) : heldAwaitState.source i =
    if i = 0 then { SourceEntry.strapManager with outstanding := 1 } else SourceEntry.reset :=
  Table.get_zero_only _ _ i

theorem heldAwaitState_domain (d : DomainNo) : heldAwaitState.domain d =
    if d = 0 then { DomainEntry.reset with valid := true, state := .opened, active := 1 } else DomainEntry.reset :=
  Table.get_zero_only _ _ d

theorem heldAwaitState_tagged (src : SourceNo) (tag : Byte) :
    heldAwaitState.tagged src tag = if src = 0 ∧ tag = 0 then some 0 else none := by
  have hkey : (src ++ tag = 0) ↔ src = 0 ∧ tag = 0 := by
    rw [← BitVec.toNat_inj]
    exact State.tagKey_inj (src' := 0) (tag' := 0)
  simp only [← hkey]
  exact Table.get_zero_only _ _ (src ++ tag)

theorem heldAwaitState_queue (g : GateNo) : (heldAwaitState.gate g).holdQueue = if g = 0 then [0] else [] := by
  rw [heldAwaitState_gate]
  split <;> rfl

theorem heldAwaitState_canonical : TablesCanonical heldAwaitState := by
  refine ⟨⟨?_, ?_⟩, ⟨?_, ?_⟩, ⟨?_, ?_⟩, ⟨?_, ?_⟩, ⟨?_, ?_⟩, ⟨?_, ?_⟩, ⟨?_, ?_⟩, ⟨?_, ?_⟩, ⟨?_, ?_⟩⟩ <;> decide

theorem heldAwaitState_gates : GatesLawful heldAwaitState := by
  intro g
  rw [heldAwaitState_gate]
  split <;> exact ⟨by decide, by decide, by decide, by decide⟩

theorem heldAwait_shaped : heldAwait.Shaped where
  free := nofun
  await _ := .inr (.inl rfl)
  answer := by decide
  lapsing := nofun
  holdDeadline := by decide
  serviceDeadline := by decide
  pages := rfl
  payload _ := .inl rfl
  payloadLength := by decide
  waiting _ := ⟨rfl, by decide⟩
  result := nofun
  serving := nofun

theorem Slot.reset_shaped : Slot.reset.Shaped where
  free _ := rfl
  await := nofun
  answer := by decide
  lapsing := nofun
  holdDeadline := by decide
  serviceDeadline := by decide
  pages := rfl
  payload := by decide
  payloadLength := by decide
  waiting := by decide
  result := nofun
  serving := nofun

theorem heldAwaitState_shaped : SlotsShaped heldAwaitState := by
  intro n
  rw [heldAwaitState_slot]
  split
  · exact heldAwait_shaped
  · exact Slot.reset_shaped

theorem heldAwaitState_collected : Collected heldAwaitState where
  held n g := by
    rw [heldAwaitState_queue, heldAwaitState_slot]
    by_cases hn : n = 0
    · subst hn
      by_cases hg : g = 0
      · simp [hg, heldAwait, Slot.reset]
      · rw [if_neg hg, if_pos rfl]
        exact ⟨nofun, fun hheld => absurd hheld.2.symm hg⟩
    · rw [if_neg hn]
      split
      · exact ⟨fun hmem => absurd (List.mem_singleton.mp hmem) hn, nofun⟩
      · exact ⟨nofun, nofun⟩
  laddered n l := by
    rw [heldAwaitState_slot]
    split <;> exact ⟨nofun, nofun⟩
  answers n := by
    rw [heldAwaitState_slot]
    split <;> exact ⟨nofun, nofun⟩
  heldOnce g := by
    rw [heldAwaitState_queue]
    split <;> decide
  ladderedOnce _ := List.nodup_nil
  answersOnce := List.nodup_nil

theorem heldAwaitState_tags : TagsIndexed heldAwaitState := by
  intro src tag n
  rw [heldAwaitState_tagged, heldAwaitState_slot]
  by_cases hn : n = 0
  · subst hn
    constructor
    · intro hsome
      split at hsome
      · rename_i hkey
        exact ⟨rfl, hkey.1.symm, hkey.2.symm⟩
      · cases hsome
    · rintro ⟨-, rfl, rfl⟩
      rfl
  · rw [if_neg hn]
    refine ⟨fun hsome => ?_, nofun⟩
    split at hsome
    · exact absurd (Option.some.inj hsome).symm hn
    · cases hsome

theorem heldAwaitState_counted : Counted heldAwaitState where
  outstanding i := by
    rw [heldAwaitState_source]
    by_cases hi : i = 0
    · subst hi; rfl
    · rw [if_neg hi]
      simp [heldAwaitState, heldAwait, Slot.reset, SourceEntry.reset, eq_comm (a := 0#6), show ¬ i = 0#6 from hi]
  active d := by
    rw [heldAwaitState_domain]
    by_cases hd : d = 0
    · subst hd; rfl
    · rw [if_neg hd]
      simp [heldAwaitState, heldAwait, Slot.reset, DomainEntry.reset, eq_comm (a := 0#2), show ¬ d = 0#2 from hd]
  references g := by
    rw [heldAwaitState_gate]
    by_cases hg : g = 0
    · subst hg; rfl
    · rw [if_neg hg]
      simp [heldAwaitState, heldAwait, Slot.reset, Slot.claimsOn, Gate.reset, eq_comm (a := 0#8), show ¬ g = 0#8 from hg]

theorem heldAwaitState_engine : EngineLawful heldAwaitState where
  applying _ := ⟨by decide, _, [], rfl, ⟨by decide, by decide, rfl, rfl, rfl, by decide⟩, nofun⟩
  idle := nofun

theorem Gate.reset_lawful : Gate.reset.Lawful :=
  ⟨by decide, by decide, by decide, by decide⟩

theorem Port.reset_lawful : Port.reset.Lawful where
  credit := by decide
  before _ := ⟨by decide, rfl, rfl, rfl, rfl⟩
  account := nofun

theorem CondEntry.reset_lawful : CondEntry.reset.Lawful :=
  ⟨by decide, by decide, by decide⟩

theorem heldAwaitState_domains : DomainsLawful heldAwaitState := by
  constructor <;> decide +kernel

/-- The state with the HELD AWAIT meets every law of the device. -/
theorem heldAwaitState_laws : DeviceLaws heldAwaitState where
  canonical := heldAwaitState_canonical
  gates := heldAwaitState_gates
  shaped := heldAwaitState_shaped
  collected := heldAwaitState_collected
  ordered g := by
    rw [heldAwaitState_queue]
    split <;> simp
  tags := heldAwaitState_tags
  counted := heldAwaitState_counted
  pages := ⟨rfl, by decide, by decide, rfl, rfl⟩
  queues := ⟨by decide, by decide, by decide, by decide, by decide, by decide⟩
  engine := heldAwaitState_engine
  ports := ⟨Port.reset_lawful, Port.reset_lawful, nofun⟩
  conditions := ⟨fun _ => CondEntry.reset_lawful, List.nodup_nil, nofun⟩
  target _ := rfl
  entryZero := rfl
  domains := heldAwaitState_domains

/-- The state that the SET ALLOWANCE leaves. -/
def heldAwaitReleased : State :=
  takeRecord .setAllowance ruleSetAllowance { heldAwaitState with pending := [] }

theorem step_heldAwaitState : step heldAwaitState = .next heldAwaitReleased := rfl

/-- The released AWAIT owes CLEAR and still holds its payload. -/
theorem heldAwaitReleased_slot : heldAwaitReleased.slot 0 =
    { heldAwait with state := .answering, answer := some .clear } := by
  decide +kernel

/-- At reset no slot is in use, so each collection, count and queue is empty. -/
theorem State.reset_laws : DeviceLaws State.reset where
  canonical := by
    refine ⟨⟨?_, ?_⟩, ⟨?_, ?_⟩, ⟨?_, ?_⟩, ⟨?_, ?_⟩, ⟨?_, ?_⟩, ⟨?_, ?_⟩, ⟨?_, ?_⟩, ⟨?_, ?_⟩, ⟨?_, ?_⟩⟩ <;> decide
  gates _ := Gate.reset_lawful
  shaped _ := Slot.reset_shaped
  collected :=
    { held := fun _ _ => ⟨nofun, nofun⟩
      laddered := fun _ _ => ⟨nofun, nofun⟩
      answers := fun _ => ⟨nofun, nofun⟩
      heldOnce := fun _ => List.nodup_nil
      ladderedOnce := fun _ => List.nodup_nil
      answersOnce := List.nodup_nil }
  ordered _ := List.Pairwise.nil
  tags _ _ _ := ⟨nofun, nofun⟩
  counted :=
    { outstanding := fun i => by
        show (Table.get SourceEntry.reset [(0, SourceEntry.strapManager)] i.toNat).outstanding = 0
        rw [Table.get_zero_only]
        split <;> rfl
      active := fun _ => rfl
      references := fun _ => rfl }
  pages := ⟨rfl, by decide, by decide, rfl, rfl⟩
  queues := ⟨by decide, by decide, by decide, by decide, by decide, by decide⟩
  engine := ⟨nofun, nofun⟩
  ports := ⟨Port.reset_lawful, Port.reset_lawful, nofun⟩
  conditions := ⟨fun _ => CondEntry.reset_lawful, List.nodup_nil, nofun⟩
  target _ := rfl
  entryZero := rfl
  domains := by constructor <;> decide

end Sys2Proof.Machine

namespace Sys2Proof.Proofs

open Sys2Proof.Machine

/-- Settles O57. -/
theorem deviceLawsHoldAtReset : Obligations.DeviceLawsHoldAtReset :=
  State.reset_laws

/-- Refutes O56: `heldAwaitState` meets every law, and its SET ALLOWANCE releases the AWAIT to ANSWERING with its payload,
which the law of slot records allows in HELD and LADDERED alone. -/
theorem not_stepKeepsDeviceLaws : ¬ Obligations.StepKeepsDeviceLaws := by
  intro hkeeps
  have hshaped := (hkeeps _ _ heldAwaitState_laws step_heldAwaitState).shaped 0
  rw [heldAwaitReleased_slot] at hshaped
  rcases hshaped.payload (by decide) with hheld | hladdered
  · cases hheld
  · cases hladdered

end Sys2Proof.Proofs

/-! What a command can do to the state: `Adjusted` collects the changes of slots, tables, pages and conditions, which leave
the ports, the queues and the engine as they are, and `Acted` adds the changes of those with the guards under which the
model makes them. Every command answers a state that is `Acted`, so a law is kept by every step when each of these changes
keeps it. -/

namespace Sys2Proof.Machine

/-! ## Changes behind the queues -/

/-- t is s after changes of slots, tables, pages, settings and conditions alone. -/
inductive Adjusted (s : State) : State → Prop
  | refl : Adjusted s s
  | setSlot {t : State} (h : Adjusted s t) (n : SlotNo) (x : Slot) : Adjusted s (t.setSlot n x)
  | setGate {t : State} (h : Adjusted s t) (g : GateNo) (x : Gate) : Adjusted s (t.setGate g x)
  | setSource {t : State} (h : Adjusted s t) (i : SourceNo) (x : SourceEntry) : Adjusted s (t.setSource i x)
  | setDomain {t : State} (h : Adjusted s t) (d : DomainNo) (x : DomainEntry) : Adjusted s (t.setDomain d x)
  | setStream {t : State} (h : Adjusted s t) (i : StreamIndex) (x : StreamEntry) : Adjusted s (t.setStream i x)
  | setDeadline {t : State} (h : Adjusted s t) (k : Selector) (x : BitVec 16) : Adjusted s (t.setDeadline k x)
  | setLevel {t : State} (h : Adjusted s t) (l : Level) (q : List SlotNo) : Adjusted s (t.setLevel l q)
  | setTagged {t : State} (h : Adjusted s t) (src : SourceNo) (tag : Byte) (n : Option SlotNo) :
      Adjusted s (t.setTagged src tag n)
  | answers {t : State} (h : Adjusted s t) (q : List SlotNo) : Adjusted s { t with answers := q }
  | pages {t : State} (h : Adjusted s t) (free tx comp : Nat) :
      Adjusted s { t with freePages := free, txPages := tx, compPages := comp }
  | settings {t : State} (h : Adjusted s t) (reserve slotLow : Nat) (target : SourceNo) (mode : ClearMode)
      (dispatch : DispatchState) :
      Adjusted s { t with
        reserve := reserve, slotLow := slotLow, noticeTarget := target, clearMode := mode, dispatch := dispatch }
  | time {t : State} (h : Adjusted s t) (now : Time) : Adjusted s { t with deviceTime := now }
  | raise {t : State} (h : Adjusted s t) (k : CondKind) (x : BitVec 32) : Adjusted s (raise k x t)
  | clearCond {t : State} (h : Adjusted s t) (k : CondKind) : Adjusted s (clearCond k t)
  | storeMask {t : State} (h : Adjusted s t) (k : CondKind) (m : Bool) : Adjusted s (storeMask k m t)
  | clearCollections {t : State} (h : Adjusted s t) : Adjusted s (clearCollections t)
  | restartTables {t : State} (h : Adjusted s t) : Adjusted s { t with
      gates := t.gates.mapValues Gate.reset Gate.restarted
      sources := t.sources.mapValues SourceEntry.reset SourceEntry.restarted
      domains := t.domains.mapValues DomainEntry.reset DomainEntry.restarted
      dispatch := .run, notices := [], conditions := t.conditions.mapValues CondEntry.reset CondEntry.cleared }

/-- The fields that no change behind the queues touches. -/
structure SameQueues (s t : State) : Prop where
  pin : t.resetAsserted = s.resetAsserted
  own : t.ownSession = s.ownSession
  port : ∀ p, t.port p = s.port p
  brief : t.brief = s.brief
  reports : t.reports = s.reports
  batches : t.batches = s.batches
  engine : t.engine = s.engine
  run : t.runCount = s.runCount
  pending : t.pending = s.pending

theorem SameQueues.refl (s : State) : SameQueues s s :=
  ⟨rfl, rfl, fun _ => rfl, rfl, rfl, rfl, rfl, rfl, rfl⟩

theorem SameQueues.trans {s t u : State} (h : SameQueues s t) (h' : SameQueues t u) : SameQueues s u where
  pin := h'.pin.trans h.pin
  own := h'.own.trans h.own
  port p := (h'.port p).trans (h.port p)
  brief := h'.brief.trans h.brief
  reports := h'.reports.trans h.reports
  batches := h'.batches.trans h.batches
  engine := h'.engine.trans h.engine
  run := h'.run.trans h.run
  pending := h'.pending.trans h.pending

/-- A state with the same fields outside the pool and the tables has the same queues. -/
theorem SameQueues.of_fields {s t : State} (hpin : t.resetAsserted = s.resetAsserted) (hown : t.ownSession = s.ownSession)
    (hinit : t.initPort = s.initPort) (hsvc : t.svcPort = s.svcPort) (hbrief : t.brief = s.brief)
    (hreports : t.reports = s.reports) (hbatches : t.batches = s.batches) (hengine : t.engine = s.engine)
    (hrun : t.runCount = s.runCount) (hpending : t.pending = s.pending) : SameQueues s t :=
  ⟨hpin, hown, fun p => by cases p <;> assumption, hbrief, hreports, hbatches, hengine, hrun, hpending⟩

namespace Adjusted

variable {s t u : State}

theorem trans (h : Adjusted s t) (h' : Adjusted t u) : Adjusted s u := by
  induction h' with
  | refl => exact h
  | setSlot _ n x ih => exact ih.setSlot n x
  | setGate _ g x ih => exact ih.setGate g x
  | setSource _ i x ih => exact ih.setSource i x
  | setDomain _ d x ih => exact ih.setDomain d x
  | setStream _ i x ih => exact ih.setStream i x
  | setDeadline _ k x ih => exact ih.setDeadline k x
  | setLevel _ l q ih => exact ih.setLevel l q
  | setTagged _ src tag n ih => exact ih.setTagged src tag n
  | answers _ q ih => exact ih.answers q
  | pages _ free tx comp ih => exact ih.pages free tx comp
  | settings _ reserve slotLow target mode dispatch ih => exact ih.settings reserve slotLow target mode dispatch
  | time _ now ih => exact ih.time now
  | raise _ k x ih => exact ih.raise k x
  | clearCond _ k ih => exact ih.clearCond k
  | storeMask _ k m ih => exact ih.storeMask k m
  | clearCollections _ ih => exact ih.clearCollections
  | restartTables _ ih => exact ih.restartTables

theorem sameQueues (h : Adjusted s t) : SameQueues s t := by
  induction h with
  | refl => exact .refl s
  | _ =>
    rename_i hsame
    exact hsame.trans (.of_fields rfl rfl rfl rfl rfl rfl rfl rfl rfl rfl)

/-! ### The pool's operations -/

theorem completeDrain (h : Adjusted s t) (d : DomainNo) : Adjusted s (completeDrain d t) := by
  unfold Machine.completeDrain
  split
  · exact (h.setDomain d _).raise _ _
  · exact h

theorem leaveActive (h : Adjusted s t) (r : FallReport) (d : DomainNo) : Adjusted s (leaveActive r d t) := by
  cases r with
  | atOnce => exact (h.setDomain d _).completeDrain d
  | deferred => exact h.setDomain d _

theorem completeDrains (h : Adjusted s t) : Adjusted s (completeDrains t) :=
  (((h.completeDrain 0).completeDrain 1).completeDrain 2).completeDrain 3

theorem releasePages (h : Adjusted s t) (n : SlotNo) : Adjusted s (releasePages n t) :=
  (h.pages _ _ t.compPages).setSlot n _

theorem owe (h : Adjusted s t) (st : SlotState) (a : Answer) (n : SlotNo) : Adjusted s (owe st a n t) :=
  (h.setSlot n _).answers _

theorem leaveCollection (h : Adjusted s t) (n : SlotNo) : Adjusted s (leaveCollection n t) := by
  unfold Machine.leaveCollection
  split
  · exact h
  · exact h.setGate _ _
  · exact h.setLevel _ _
  · exact h
  · exact h.answers _
  · exact h.answers _
  · exact h

theorem endIndex (h : Adjusted s t) (x : Slot) : Adjusted s (endIndex x t) := by
  unfold Machine.endIndex
  split
  · exact (h.setTagged _ _ none).setSource _ _
  · exact h

theorem endActive (h : Adjusted s t) (x : Slot) : Adjusted s (endActive x t) := by
  unfold Machine.endActive
  split
  · exact h.setDomain _ _
  · exact h

theorem freeSlot (h : Adjusted s t) (n : SlotNo) : Adjusted s (freeSlot n t) :=
  (((((((h.leaveCollection n).endIndex _).endActive _).setGate _ _).setGate _ _).pages _ _ _).pages _ _ _).setSlot n _

theorem lapseSlot (h : Adjusted s t) (n : SlotNo) : Adjusted s (lapseSlot n t) :=
  (((h.leaveCollection n).endIndex _).endActive _).setSlot n _

theorem raiseSlotPoolLow (h : Adjusted s t) (before : Nat) : Adjusted s (raiseSlotPoolLow before t) := by
  unfold Machine.raiseSlotPoolLow
  split
  · exact h.raise _ _
  · exact h

theorem allocate (h : Adjusted s t) (n : SlotNo) (x : Slot) : Adjusted s (allocate n x t) :=
  (((((h.setSlot n x).setTagged _ _ _).setSource _ _).setGate _ _).setGate _ _).raiseSlotPoolLow _

/-! ### The gate unit -/

theorem enterLadder (h : Adjusted s t) (pl : Placement) (n : SlotNo) : Adjusted s (enterLadder pl n t) := by
  cases pl <;> exact h.setLevel _ _

theorem grant (h : Adjusted s t) (n : SlotNo) : Adjusted s (grant n t) := by
  unfold Machine.grant
  simp only
  split
  · exact (((h.setGate _ _).setSlot n _).enterLadder .tail n).setDomain _ _
  · exact (h.setGate _ _).owe _ _ n

theorem hold (h : Adjusted s t) (n : SlotNo) : Adjusted s (hold n t) :=
  ((h.setGate _ _).setSlot n _).setDomain _ _

theorem take (h : Adjusted s t) (n : SlotNo) : Adjusted s (take n t) := by
  unfold Machine.take
  simp only
  split
  · exact (h.setGate _ _).grant n
  · exact (h.setGate _ _).hold n

theorem release (h : Adjusted s t) (r : FallReport) (g : GateNo) : Adjusted s (release r g t) := by
  unfold Machine.release
  split
  · exact h
  · simp only
    split
    · exact ((h.setGate g _).setSlot _ _).enterLadder _ _
    · exact ((h.setGate g _).owe _ _ _).leaveActive r _

theorem give (h : Adjusted s t) (c : GiveCause) (r : FallReport) (g : GateNo) : Adjusted s (give c r g t) := by
  unfold Machine.give
  simp only
  split
  · exact (h.setGate g _).release r g
  split
  · exact (h.setGate g _).setGate g _
  · cases c with
    | post => exact (h.setGate g _).setGate g _
    | noSender => exact ((h.setGate g _).setGate g _).raise _ _

theorem giveEach (h : Adjusted s t) (c : GiveCause) (r : FallReport) (gs : List GateNo) :
    Adjusted s (giveEach c r gs t) := by
  induction gs generalizing t with
  | nil => exact h
  | cons g gs ih => exact ih (h.give c r g)

theorem postGives (h : Adjusted s t) (g : GateNo) (n : Nat) : Adjusted s (postGives g n t) := by
  induction n generalizing t with
  | zero => exact h
  | succ n ih => exact ih (h.give .post .atOnce g)

theorem releaseMany (h : Adjusted s t) (g : GateNo) (n : Nat) : Adjusted s (releaseMany g n t) := by
  induction n generalizing t with
  | zero => exact h
  | succ n ih => exact ih ((h.setGate g _).release .atOnce g)

theorem closeHeld (h : Adjusted s t) (code : CloseCode) (r : FallReport) (n : SlotNo) :
    Adjusted s (closeHeld code r n t) :=
  (((h.setGate _ _).owe _ _ n).releasePages n).leaveActive r _

theorem closeLaddered (h : Adjusted s t) (code : CloseCode) (r : FallReport) (n : SlotNo) :
    Adjusted s (closeLaddered code r n t) :=
  (((h.setLevel _ _).owe _ _ n).releasePages n).leaveActive r _

/-! ### The events' own parts -/

theorem raiseForRefusal (h : Adjusted s t) (p : Packet) (r : Reason) : Adjusted s (raiseForRefusal p r t) := by
  unfold Machine.raiseForRefusal
  split
  · exact h.raise _ _
  split
  · exact h.raise _ _
  · exact h

theorem giveSlot (h : Adjusted s t) (kind : SlotKind) (p : Packet) : Adjusted s (giveSlot kind p t) := by
  unfold Machine.giveSlot
  split
  · exact h
  · exact ((((h.pages _ _ t.compPages).allocate _ _).setStream _ _).setSource _ _).take _

theorem completionGive (h : Adjusted s t) (r : FallReport) (x : Slot) : Adjusted s (completionGive r x t) := by
  unfold Machine.completionGive
  split
  · exact h.give _ r _
  · exact h

theorem completeServing (h : Adjusted s t) (p : Packet) (n : SlotNo) : Adjusted s (completeServing p n t) :=
  (((h.pages _ t.txPages _).owe _ _ n).leaveActive .atOnce _).completionGive .atOnce _

theorem completeLate (h : Adjusted s t) (n : SlotNo) : Adjusted s (completeLate n t) :=
  ((h.freeSlot n).completionGive .atOnce _).raise _ _

theorem lapseService (h : Adjusted s t) (n : SlotNo) : Adjusted s (lapseService n t) :=
  ((h.owe _ _ n).leaveActive .atOnce _).raise _ _

theorem finishSlot (h : Adjusted s t) (n : SlotNo) : Adjusted s (finishSlot n t) := by
  unfold Machine.finishSlot
  split
  · exact h.lapseSlot n
  · exact h.freeSlot n

theorem moveEach (h : Adjusted s t) {f : SlotNo → State → State}
    (hf : ∀ n {u}, Adjusted s u → Adjusted s (f n u)) (ns : List SlotNo) : Adjusted s (moveEach f ns t) := by
  induction ns generalizing t with
  | nil => exact h
  | cons n ns ih => exact ih (hf n h)

theorem restartSlot (h : Adjusted s t) (n : SlotNo) : Adjusted s (restartSlot n t) := by
  unfold Machine.restartSlot
  split
  · exact h
  · exact h.freeSlot n
  · exact h.freeSlot n
  · exact (h.lapseSlot n).setSlot n _
  · exact h.freeSlot n
  · exact (h.lapseSlot n).setSlot n _
  · exact h.setSlot n _

theorem initiatorChangeSlot (h : Adjusted s t) (n : SlotNo) : Adjusted s (initiatorChangeSlot n t) := by
  unfold Machine.initiatorChangeSlot
  split
  · exact h
  · exact h.freeSlot n
  · exact h.freeSlot n
  · exact h.lapseSlot n
  · exact h.freeSlot n
  · split
    · exact h.lapseSlot n
    · exact h.freeSlot n
  · exact h

theorem serviceChangeSlot (h : Adjusted s t) (n : SlotNo) : Adjusted s (serviceChangeSlot n t) := by
  unfold Machine.serviceChangeSlot
  split
  · exact h
  · exact h
  · exact h
  · exact (h.owe _ _ n).setDomain _ _
  · exact h
  · exact h.setSlot n _
  · exact h.freeSlot n

theorem flushHeld (h : Adjusted s t) (ns : List SlotNo) : Adjusted s (flushHeld ns t) := by
  induction ns generalizing t with
  | nil => exact h
  | cons n ns ih => exact ih (h.closeHeld _ _ n)

theorem flushLaddered (h : Adjusted s t) (ns : List SlotNo) : Adjusted s (flushLaddered ns t) := by
  induction ns generalizing t with
  | nil => exact h
  | cons n ns ih => exact ih (h.closeLaddered _ _ n)

theorem beginDrain (h : Adjusted s t) (d : DomainNo) (m : DrainMode) : Adjusted s (beginDrain d m t) := by
  cases m with
  | wait => exact (h.setDomain d _).completeDrain d
  | flush => exact ((((h.setDomain d _).flushHeld _).flushLaddered _).giveEach _ _ _).completeDrain d

theorem corrupt (h : Adjusted s t) (m : Mismatch) : Adjusted s (corrupt m t) := by
  unfold Machine.corrupt
  split
  · exact h.setSource _ _
  · exact h.setSource _ _
  · exact h.setDomain _ _
  · exact h.setDomain _ _
  · exact h.setStream _ _
  · exact h.setStream _ _

end Adjusted

/-! ### The rules of the records -/

/-- The rule that owns a keyed record (R133). -/
def RecordOp.rule : RecordOp → Record → State → Ruling
  | .sourceRead => ruleSourceRead
  | .sourceWrite => ruleSourceWrite
  | .domainRead => ruleDomainRead
  | .domainWrite => ruleDomainWrite
  | .drain => ruleDrain
  | .reopen => ruleReopen
  | .streamRead => ruleStreamRead
  | .streamWrite => ruleStreamWrite
  | .gateRead => ruleGateRead
  | .gateWrite => ruleGateWrite
  | .setAllowance => ruleSetAllowance
  | .deadlineRead => ruleDeadlineRead
  | .deadlineWrite => ruleDeadlineWrite
  | .conditionRead => ruleConditionRead
  | .conditionWrite => ruleConditionWrite
  | .acknowledge => ruleAcknowledge
  | .deviceRead => ruleDeviceRead
  | .deviceWrite => ruleDeviceWrite
  | .dispatch => ruleDispatch
  | .restart => ruleRestart
  | .slotRead => ruleSlotRead
  | .slotWrite => ruleSlotWrite
  | .reclaim => ruleReclaim

/-- A refused record and a READ leave the state, and a record reported DONE changes only what stands behind the queues;
RESTART alone also sets the run count. -/
theorem adjusted_rule {op : RecordOp} (hop : op ≠ .restart) (r : Record) (s : State) :
    Adjusted s (op.rule r s).state := by
  have h : Adjusted s s := .refl
  cases op with
  | restart => exact absurd rfl hop
  | slotWrite => exact h
  | sourceRead => simp only [RecordOp.rule, ruleSourceRead]; split; exact h; split; exact h; split <;> exact h
  | domainRead => simp only [RecordOp.rule, ruleDomainRead]; split; exact h; split <;> exact h
  | streamRead => simp only [RecordOp.rule, ruleStreamRead]; split; exact h; split <;> exact h
  | gateRead => simp only [RecordOp.rule, ruleGateRead]; split; exact h; split; exact h; split <;> exact h
  | deadlineRead => simp only [RecordOp.rule, ruleDeadlineRead]; split <;> exact h
  | deviceRead => simp only [RecordOp.rule, ruleDeviceRead]; split; exact h; split; exact h; split <;> exact h
  | slotRead => simp only [RecordOp.rule, ruleSlotRead]; split; exact h; split <;> exact h
  | sourceWrite =>
    simp only [RecordOp.rule, ruleSourceWrite]
    split; exact h; split; exact h; split; exact h
    exact (h.setSource _ _).raise _ _
  | domainWrite =>
    simp only [RecordOp.rule, ruleDomainWrite]
    split; exact h; split; exact h; split; exact h
    exact h.setDomain _ _
  | drain =>
    simp only [RecordOp.rule, ruleDrain]
    split; exact h; split
    · exact h.beginDrain _ _
    · exact h
  | reopen =>
    simp only [RecordOp.rule, ruleReopen]
    split; exact h; split
    · exact h.setDomain _ _
    · exact h
  | streamWrite =>
    simp only [RecordOp.rule, ruleStreamWrite]
    split; exact h
    exact h.setStream _ _
  | gateWrite =>
    simp only [RecordOp.rule, ruleGateWrite]
    split; exact h; split; exact h
    exact h.setGate _ _
  | setAllowance =>
    simp only [RecordOp.rule, ruleSetAllowance]
    split
    · split; exact h; split; exact h
      exact (h.releaseMany _ _).setGate _ _
    · exact h
  | deadlineWrite =>
    simp only [RecordOp.rule, ruleDeadlineWrite]
    split
    · split; exact h
      exact h.setDeadline _ _
    · exact h
  | conditionRead =>
    simp only [RecordOp.rule, ruleConditionRead]
    split; exact h; split
    · exact h
    · exact h.clearCond _
  | conditionWrite =>
    simp only [RecordOp.rule, ruleConditionWrite]
    split; exact h
    exact h.storeMask _ _
  | acknowledge =>
    simp only [RecordOp.rule, ruleAcknowledge]
    split; exact h
    exact h.clearCond _
  | deviceWrite =>
    simp only [RecordOp.rule, ruleDeviceWrite]
    split; exact h; split; exact h; split; exact h
    exact h.settings _ _ _ _ s.dispatch
  | dispatch =>
    simp only [RecordOp.rule, ruleDispatch]
    split; exact h
    exact h.settings s.reserve s.slotLow s.noticeTarget s.clearMode _
  | reclaim =>
    simp only [RecordOp.rule, ruleReclaim]
    split; exact h; split; exact h
    split
    · exact (h.freeSlot _).give _ _ _
    · exact h.freeSlot _

/-! ## Changes of ports, queues and the engine -/

/-- t is s after changes behind the queues and changes of ports, queues and the engine, each under the guard with which
the model makes it. -/
inductive Acted (s : State) : State → Prop
  | refl : Acted s s
  | adjusted {t u : State} (h : Acted s t) (hadjusted : Adjusted t u) : Acted s u
  | link {t : State} (h : Acted s t) (p : PortId) (st : LinkState) (hst : st ≠ .up)
      (hpin : st = .down ∨ t.resetAsserted = false ∨ (t.port p).link = .up) :
      Acted s (modifyPort p (fun q => { q with link := st }) t)
  | firstUp {t : State} (h : Acted s t) (p : PortId) (credit session : Byte) (hlink : (t.port p).link = .training)
      (hfirst : (t.port p).announced = false) : Acted s (firstUp p credit session t)
  | retrainUp {t : State} (h : Acted s t) (p : PortId) (hlink : (t.port p).link = .training)
      (hannounced : (t.port p).announced = true) : Acted s (retrainUp p t)
  | newSession {t : State} (h : Acted s t) (p : PortId) (credit session own : Byte)
      (hlink : (t.port p).link = .training) :
      Acted s (modifyPort p (fun q => q.newSession credit session own) t)
  | announceOwn {t : State} (h : Acted s t) : Acted s (announceOwn t)
  | returnCredit {t : State} (h : Acted s t) (p : PortId) : Acted s (returnCredit p t)
  | acceptPacket {t : State} (h : Acted s t) (p : PortId) (x : Packet) (hlink : (t.port p).link = .up)
      (hroom : (t.port p).rx.length < 16) : Acted s (acceptPacket p x t)
  | takeFromBuffer {t : State} (h : Acted s t) (p : PortId) (hrx : (t.port p).rx ≠ []) : Acted s (takeFromBuffer p t)
  | transmit {t : State} (h : Acted s t) (p : PortId) (x : Packet) (hlink : (t.port p).link = .up) :
      Acted s (transmit p x t)
  | fillReservation {t : State} (h : Acted s t) (b : BriefAnswer) (hroom : t.brief.length < 32) :
      Acted s (fillReservation b t)
  | joinBatches {t : State} (h : Acted s t) (p : Packet) (hroom : t.batches.length < 4) :
      Acted s { t with batches := t.batches ++ [newBatch p] }
  | sent {t : State} (h : Acted s t) (notices : List CondKind) (reports : List Report) (brief : List BriefAnswer)
      (hnotices : notices.Sublist t.notices) (hreports : reports.Sublist t.reports) (hbrief : brief.Sublist t.brief) :
      Acted s { t with notices := notices, reports := reports, brief := brief }
  | runCount {t : State} (h : Acted s t) (run : Nat) (hrun : run ≤ 8) : Acted s { t with runCount := run }
  | beginBatch {t : State} (h : Acted s t) (b : Batch) (waiting : List Batch) (hidle : t.engine = .idle)
      (hhead : t.batches = b :: waiting) (hroom : t.reports.length < 4) :
      Acted s { setHeadBatch b.begun t with engine := .applying }
  | tookRecord {t : State} (h : Acted s t) (b : Batch) (waiting : List Batch) (happlying : t.engine = .applying)
      (hhead : t.batches = b :: waiting) (hposition : b.position < 32) (r : Record) (st : Status) (data : List Byte) :
      Acted s (setHeadBatch (b.took r st data) t)
  | finishBatch {t : State} (h : Acted s t) (b b' : Batch) (waiting : List Batch) (happlying : t.engine = .applying)
      (hhead : t.batches = b :: waiting) : Acted s (finishBatch b' t)
  | emptyQueues {t : State} (h : Acted s t) :
      Acted s { t with brief := [], reports := [], batches := [], engine := .idle, runCount := 0 }
  | powerOn {t : State} (h : Acted s t) (straps : SourceNo) (stored : Byte) : Acted s (powerOn straps stored t.pending)
  | assertPin {t : State} (h : Acted s t) :
      Acted s { powerOn t.straps t.storedSession t.pending with resetAsserted := true, ownSession := t.ownSession }

/-! ### The commands -/

section Commands

variable {s : State}

theorem oldestFor_spec {k : InKind} {p : Packet} (hold : oldestFor k s = some p) :
    (∃ later, s.initPort.rx = p :: later) ∧ s.brief.length < 32 := by
  unfold oldestFor at hold
  split at hold
  · cases hold
  · rename_i p' later hrx
    split at hold
    · rename_i htakes
      obtain ⟨hbrief, -⟩ := Bool.and_eq_true_iff.mp htakes
      cases hold
      exact ⟨⟨later, hrx⟩, of_decide_eq_true hbrief⟩
    · cases hold

/-- A MANAGE that passes its checks finds room in the batch queue (R44). -/
theorem batches_of_passed {p : Packet} (hpassed : failedCheck .manage p s = none) : s.batches.length < 4 := by
  by_contra hfull
  obtain ⟨r, hr⟩ : ∃ r, firstFailure (checks .manage p s) = some r := by
    have hmem : (true, Reason.busy) ∈ checks .manage p s := mem_checks_of_checkFails ⟨rfl, Nat.le_of_not_lt hfull⟩
    generalize checks .manage p s = cs at hmem
    induction cs with
    | nil => cases hmem
    | cons c cs ih =>
      obtain ⟨b, r⟩ := c
      cases b with
      | true => exact ⟨r, rfl⟩
      | false =>
        rcases List.mem_cons.mp hmem with hhead | htail
        · cases hhead
        · exact ih htail
  rw [failedCheck, hr] at hpassed
  cases hpassed

theorem acted_rule {t : State} (ht : Acted s t) {k : InKind} {p : Packet} (hbrief : t.brief.length < 32)
    (hpassed : failedCheck k p t = none) : Acted s (k.rule p t) := by
  have h : Adjusted t t := .refl
  have hfill {u : State} (hadjusted : Adjusted t u) (b : BriefAnswer) : Acted s (fillReservation b u) :=
    (ht.adjusted hadjusted).fillReservation b (hadjusted.sameQueues.brief ▸ hbrief)
  cases k with
  | transact => exact ht.adjusted (h.giveSlot .transact p)
  | await => exact ht.adjusted (h.giveSlot .await p)
  | post => exact hfill (((h.postGives _ _).setStream _ _).setSource _ _) _
  | withdraw =>
    have hrefused (r : Reason) : Acted s (refuseWithdraw p r t) := hfill (h.setSource _ _) _
    simp only [InKind.rule, ruleWithdraw]
    split
    · exact hrefused _
    split
    · exact hrefused _
    · exact ht.adjusted ((h.closeHeld _ _ _).setSource _ _)
    · exact ht.adjusted (((h.closeLaddered _ _ _).give _ _ _).setSource _ _)
    · exact hrefused _
    · exact hrefused _
    · exact hrefused _
    · exact hrefused _
  | manage => exact (ht.joinBatches p (batches_of_passed hpassed)).adjusted (.setSource .refl _ _)

theorem acted_refuse {t : State} (ht : Acted s t) (p : Packet) (r : Reason) (hbrief : t.brief.length < 32) :
    Acted s (refuse p r t) := by
  have hadjusted : Adjusted t (countRefused p (raiseForRefusal p r t)) := (Adjusted.refl.raiseForRefusal p r).setSource _ _
  exact (ht.adjusted hadjusted).fillReservation _ (hadjusted.sameQueues.brief ▸ hbrief)

theorem acted_takePacket (k : InKind) : Acted s (takePacket k k.rule s) := by
  unfold takePacket
  split
  · exact .refl
  · rename_i p hold
    obtain ⟨⟨later, hrx⟩, hbrief⟩ := oldestFor_spec hold
    have htaken : Acted s (takeFromBuffer .initiator s) := .takeFromBuffer .refl .initiator (by simp [hrx])
    simp only
    split
    · exact acted_refuse htaken p _ hbrief
    · rename_i hpassed
      exact acted_rule htaken hbrief hpassed

theorem acted_forward : Acted s (match forwardChoice s with
    | none => s
    | some n => forwardSlot n s) := by
  split
  · exact .refl
  · rename_i n hchoice
    have hup : s.svcPort.link = .up := by
      unfold forwardChoice at hchoice
      split at hchoice
      · rename_i hguard
        exact hguard.2.1
      · cases hchoice
    have hleft : Acted s (s.setLevel (s.slot n).priority (s.level (s.slot n).priority).tail) :=
      .adjusted .refl (.setLevel .refl _ _)
    exact (hleft.transmit .service (forwardPacket n (s.slot n)) hup).adjusted
      (((Adjusted.refl).releasePages n).setSlot n _)

theorem acted_takeComplete {p : Packet} {later : List Packet} (hrx : s.svcPort.rx = p :: later) :
    Acted s (takeComplete p s) := by
  have htaken : Acted s (takeServicePacket s) := .takeFromBuffer .refl .service (by simp [hrx])
  have hstray : Acted s (completeStray p (takeServicePacket s)) := htaken.adjusted (.raise .refl _ _)
  unfold takeComplete
  split
  · split
    · split
      · exact htaken.adjusted (Adjusted.refl.completeServing p _)
      · exact .refl
    · exact htaken.adjusted (Adjusted.refl.completeLate _)
    · exact hstray
    · exact hstray
    · exact hstray
    · exact hstray
    · exact hstray
  · exact hstray

theorem outboundChoice_up {c : Sending} (hchoice : outboundChoice s = some c) : s.initPort.link = .up := by
  unfold outboundChoice at hchoice
  split at hchoice
  · rename_i hguard
    exact hguard.1
  · cases hchoice

theorem runCountAfterOther_le : runCountAfterOther s ≤ 8 := by
  unfold runCountAfterOther
  split
  · exact Nat.zero_le _
  · exact Nat.min_le_right _ _

theorem acted_sendChosen {c : Sending} (hup : s.initPort.link = .up) : Acted s (sendChosen c s) := by
  have hsent (x : Packet) : Acted s (transmit .initiator x s) := .transmit .refl .initiator x hup
  cases c with
  | notice k =>
    exact ((hsent _).sent s.notices.tail s.reports s.brief (List.tail_sublist _) (.refl _) (.refl _)).runCount _
      runCountAfterOther_le
  | report r =>
    exact ((hsent _).sent s.notices s.reports.tail s.brief (.refl _) (List.tail_sublist _) (.refl _)).runCount _
      runCountAfterOther_le
  | brief b =>
    exact ((hsent _).sent s.notices s.reports s.brief.tail (.refl _) (.refl _) (List.tail_sublist _)).runCount _
      runCountAfterOther_le
  | answer n =>
    simp only [sendChosen, sendAnswer]
    split
    · exact .refl
    · exact ((hsent _).adjusted (Adjusted.refl.finishSlot n)).runCount 0 (Nat.zero_le _)

/-- What stands at the position of a batch decides whether the position is below 32 (R134). -/
theorem position_lt_of_nextAction {b : Batch}
    (haction : (∃ op r, b.nextAction = .owned op r) ∨ ∃ r, b.nextAction = .badKey r) : b.position < 32 := by
  by_contra hlast
  have hfound : findRecord b.position b.rest = .missingEnd ∨ findRecord b.position b.rest = .endMarker := by
    unfold findRecord
    split
    · exact .inl rfl
    · split
      · exact .inr rfl
      · exact .inl (if_pos (Nat.le_of_not_lt hlast))
  unfold Batch.nextAction at haction
  rcases hfound with hfound | hfound <;> rw [hfound] at haction <;> simp at haction

theorem currentAction_spec {b : Batch} {x : Action} (haction : currentAction s = some (b, x)) :
    s.engine = .applying ∧ (∃ waiting, s.batches = b :: waiting) ∧ b.nextAction = x := by
  unfold currentAction at haction
  split at haction
  · rename_i b' waiting happlying hhead
    cases haction
    exact ⟨happlying, ⟨waiting, hhead⟩, rfl⟩
  · cases haction

/-- A record row moves the head batch past the record, in the state of the ruling. -/
theorem acted_tookRecord {b : Batch} {op : RecordOp} {r r' : Record} {t : State} {st : Status} {data : List Byte}
    (haction : currentAction s = some (b, .owned op r)) (ht : Adjusted s t) :
    Acted s (setHeadBatch (b.took r' st data) t) := by
  obtain ⟨happlying, ⟨waiting, hhead⟩, hnext⟩ := currentAction_spec haction
  exact (Acted.refl.adjusted ht).tookRecord b waiting (ht.sameQueues.engine.trans happlying)
    (ht.sameQueues.batches.trans hhead) (position_lt_of_nextAction (.inl ⟨op, r, hnext⟩)) r' st data

theorem acted_takeRecord {op : RecordOp} (hop : op ≠ .restart) : Acted s (takeRecord op op.rule s) := by
  unfold takeRecord
  split
  · rename_i b op' r haction
    split
    · exact acted_tookRecord haction (adjusted_rule hop r s)
    · exact .refl
  · exact .refl

theorem adjusted_restartBlocks : ∃ t, Adjusted s t ∧ restartBlocks s = { t with runCount := 0 } :=
  ⟨_, ((Adjusted.refl.moveEach (fun n _ h => h.restartSlot n) s.usedSlots).clearCollections).restartTables, rfl⟩

theorem ruleRestart_nil {r : Record} (hvalue : r.value = []) : ruleRestart r s = ruledDone (restartBlocks s) :=
  if_neg (not_not.mpr hvalue)

theorem ruleRestart_badValue {r : Record} (hvalue : r.value ≠ []) : ruleRestart r s = ruledRefused s .badValue :=
  if_pos hvalue

theorem acted_takeRestart : Acted s (takeRestart ruleRestart s) := by
  unfold takeRestart
  split
  · rename_i b r haction
    by_cases hvalue : r.value = []
    · obtain ⟨t, ht, hblocks⟩ := adjusted_restartBlocks (s := s)
      obtain ⟨happlying, ⟨waiting, hhead⟩, -⟩ := currentAction_spec haction
      simp only [ruleRestart_nil hvalue, hblocks]
      exact ((Acted.refl.adjusted ht).runCount 0 (Nat.zero_le _)).finishBatch b _ waiting
        (ht.sameQueues.engine.trans happlying) (ht.sameQueues.batches.trans hhead)
    · simp only [ruleRestart_badValue hvalue]
      exact acted_tookRecord haction .refl
  · exact .refl

theorem acted_batchBegin : Acted s (match s.engine, s.batches with
    | .idle, b :: _ =>
      if s.reports.length < Config.reportCapacity then { setHeadBatch b.begun s with engine := .applying } else s
    | _, _ => s) := by
  split
  · rename_i b waiting hidle hhead
    split
    · rename_i hroom
      exact Acted.refl.beginBatch b waiting hidle hhead hroom
    · exact .refl
  · exact .refl

/-- A batch that ends at its position finishes, whatever entries its REPORT gains. -/
theorem acted_finishBatch {b b' : Batch} {x : Action} (haction : currentAction s = some (b, x)) :
    Acted s (finishBatch b' s) := by
  obtain ⟨happlying, ⟨waiting, hhead⟩, -⟩ := currentAction_spec haction
  exact .finishBatch .refl b b' waiting happlying hhead

theorem exec_endMarker_acted {t : State} (hexec : exec .endMarker s = .next t) : Acted s t := by
  cases hexec
  split
  · rename_i b haction
    exact acted_finishBatch haction
  · rename_i b haction
    exact acted_finishBatch haction
  · rename_i b haction
    exact acted_finishBatch haction
  · exact .refl

theorem exec_badKey_acted {t : State} (hexec : exec .badKey s = .next t) : Acted s t := by
  cases hexec
  split
  · rename_i b r haction
    obtain ⟨happlying, ⟨waiting, hhead⟩, hnext⟩ := currentAction_spec haction
    exact Acted.refl.tookRecord b waiting happlying hhead (position_lt_of_nextAction (.inr ⟨r, hnext⟩)) r _ _
  · rename_i b r haction
    exact acted_finishBatch haction
  · rename_i b haction
    exact acted_finishBatch haction
  · rename_i b haction
    exact acted_finishBatch haction
  · exact .refl

theorem acted_raiseLinkChange {t : State} (h : Acted s t) (p : PortId) : Acted s (raiseLinkChange p t) :=
  h.adjusted (.raise .refl _ _)

theorem acted_sessionChange {t : State} (h : Acted s t) (p : PortId) (credit session : Byte)
    (hlink : (t.port p).link = .training) : Acted s (sessionChange p credit session t) := by
  have hup := h.newSession p credit session t.ownSession hlink
  cases p with
  | initiator =>
    exact ((hup.adjusted (((Adjusted.refl.moveEach (fun n _ hu => hu.initiatorChangeSlot n) _).clearCollections).giveEach
      _ _ _)).emptyQueues).adjusted Adjusted.refl.completeDrains
  | service =>
    exact hup.adjusted (((Adjusted.refl.moveEach (fun n _ hu => hu.serviceChangeSlot n) _).giveEach _ _ _).completeDrains)

theorem acted_reachUp (p : PortId) (credit session : Byte) (hlink : (s.port p).link = .training) :
    Acted s (reachUp p credit session s) := by
  have hstored : Acted s (announceOwn s) := Acted.refl.announceOwn
  have hport : (announceOwn s).port p = s.port p := by cases p <;> rfl
  unfold reachUp
  simp only
  split
  · rename_i hfirst
    exact hstored.firstUp p credit session (hport ▸ hlink) (hport ▸ hfirst)
  · rename_i hannounced
    split
    · exact hstored.retrainUp p (hport ▸ hlink) (hport ▸ Bool.not_eq_false _ ▸ hannounced)
    · exact acted_sessionChange hstored p credit session (hport ▸ hlink)

theorem acted_up (p : PortId) (credit session : Byte) : Acted s (if (s.port p).link = .training then
    if credit = 0 then moveLink p .down s else raiseLinkChange p (reachUp p credit session s) else s) := by
  split
  · rename_i hlink
    split
    · exact acted_raiseLinkChange (Acted.refl.link p .down nofun (.inl rfl)) p
    · exact acted_raiseLinkChange (acted_reachUp p credit session hlink) p
  · exact .refl

/-- An event that moves a link, under its guard. -/
theorem acted_moveLink_if {c : Prop} [Decidable c] (p : PortId) (st : LinkState) (hst : st ≠ .up)
    (hpin : c → st = .down ∨ s.resetAsserted = false ∨ (s.port p).link = .up) :
    Acted s (if c then moveLink p st s else s) := by
  split
  · rename_i hc
    exact acted_raiseLinkChange (Acted.refl.link p st hst (hpin hc)) p
  · exact .refl

theorem adjusted_if {c : Prop} [Decidable c] {t : State} (h : Adjusted s t) : Adjusted s (if c then t else s) := by
  split
  · exact h
  · exact .refl

/-- Every command answers a state that it reaches by the changes of `Acted`. -/
theorem exec_acted (c : Instr) (s : State) : ∃ t, exec c s = .next t ∧ Acted s t := by
  have hrecord {op : RecordOp} (hop : op ≠ .restart) : Acted s (takeRecord op op.rule s) := acted_takeRecord hop
  have h : Adjusted s s := .refl
  cases c with
  | transact => exact ⟨_, rfl, acted_takePacket .transact⟩
  | await => exact ⟨_, rfl, acted_takePacket .await⟩
  | post => exact ⟨_, rfl, acted_takePacket .post⟩
  | withdraw => exact ⟨_, rfl, acted_takePacket .withdraw⟩
  | manage => exact ⟨_, rfl, acted_takePacket .manage⟩
  | forward => exact ⟨_, rfl, acted_forward⟩
  | complete =>
    refine ⟨_, rfl, ?_⟩
    split
    · exact .refl
    · rename_i hrx
      exact acted_takeComplete hrx
  | serviceLapse n => exact ⟨_, rfl, .adjusted .refl (adjusted_if (h.lapseService n))⟩
  | holdExpiry n => exact ⟨_, rfl, .adjusted .refl (adjusted_if ((h.setGate _ _).closeHeld _ _ n))⟩
  | outboundSending =>
    refine ⟨_, rfl, ?_⟩
    split
    · exact .refl
    · rename_i hchoice
      exact acted_sendChosen (outboundChoice_up hchoice)
  | forwardCreditReturn => exact ⟨_, rfl, .returnCredit .refl .service⟩
  | transmitCreditReturn => exact ⟨_, rfl, .returnCredit .refl .initiator⟩
  | packetReceived p x =>
    refine ⟨_, rfl, ?_⟩
    split
    · rename_i hguard
      exact .acceptPacket .refl p x hguard.1 hguard.2
    · exact .refl
  | signallingDetected p => exact ⟨_, rfl, acted_moveLink_if p .training nofun fun hguard => .inr (.inl hguard.2)⟩
  | up p credit session => exact ⟨_, rfl, acted_up p credit session⟩
  | trainingFailure p => exact ⟨_, rfl, acted_moveLink_if p .down nofun fun _ => .inl rfl⟩
  | linkLoss p => exact ⟨_, rfl, acted_moveLink_if p .down nofun fun _ => .inl rfl⟩
  | retrainRequest p => exact ⟨_, rfl, acted_moveLink_if p .training nofun fun hguard => .inr (.inr hguard)⟩
  | resetAssert => exact ⟨_, rfl, .assertPin .refl⟩
  | resetRelease straps =>
    refine ⟨_, rfl, ?_⟩
    split
    · exact .powerOn .refl straps s.storedSession
    · exact .refl
  | checkCodeMismatch m =>
    refine ⟨_, rfl, ?_⟩
    split
    · exact .refl
    · exact .adjusted .refl (h.corrupt m)
  | deviceTimeTick =>
    refine ⟨_, rfl, ?_⟩
    split
    · exact .refl
    · exact .adjusted .refl (h.time _)
  | batchBegin => exact ⟨_, rfl, acted_batchBegin⟩
  | endMarker => exact ⟨_, rfl, exec_endMarker_acted rfl⟩
  | badKey => exact ⟨_, rfl, exec_badKey_acted rfl⟩
  | restart => exact ⟨_, rfl, acted_takeRestart⟩
  | sourceWrite => exact ⟨_, rfl, hrecord (op := .sourceWrite) nofun⟩
  | sourceRead => exact ⟨_, rfl, hrecord (op := .sourceRead) nofun⟩
  | domainWrite => exact ⟨_, rfl, hrecord (op := .domainWrite) nofun⟩
  | domainRead => exact ⟨_, rfl, hrecord (op := .domainRead) nofun⟩
  | drain => exact ⟨_, rfl, hrecord (op := .drain) nofun⟩
  | reopen => exact ⟨_, rfl, hrecord (op := .reopen) nofun⟩
  | streamWrite => exact ⟨_, rfl, hrecord (op := .streamWrite) nofun⟩
  | streamRead => exact ⟨_, rfl, hrecord (op := .streamRead) nofun⟩
  | gateWrite => exact ⟨_, rfl, hrecord (op := .gateWrite) nofun⟩
  | gateRead => exact ⟨_, rfl, hrecord (op := .gateRead) nofun⟩
  | setAllowance => exact ⟨_, rfl, hrecord (op := .setAllowance) nofun⟩
  | deadlineWrite => exact ⟨_, rfl, hrecord (op := .deadlineWrite) nofun⟩
  | deadlineRead => exact ⟨_, rfl, hrecord (op := .deadlineRead) nofun⟩
  | conditionWrite => exact ⟨_, rfl, hrecord (op := .conditionWrite) nofun⟩
  | conditionRead => exact ⟨_, rfl, hrecord (op := .conditionRead) nofun⟩
  | acknowledge => exact ⟨_, rfl, hrecord (op := .acknowledge) nofun⟩
  | deviceWrite => exact ⟨_, rfl, hrecord (op := .deviceWrite) nofun⟩
  | deviceRead => exact ⟨_, rfl, hrecord (op := .deviceRead) nofun⟩
  | dispatch => exact ⟨_, rfl, hrecord (op := .dispatch) nofun⟩
  | slotRead => exact ⟨_, rfl, hrecord (op := .slotRead) nofun⟩
  | slotWrite => exact ⟨_, rfl, hrecord (op := .slotWrite) nofun⟩
  | reclaim => exact ⟨_, rfl, hrecord (op := .reclaim) nofun⟩

/-- A step is idle or a command on the state with the queue's rest. -/
theorem step_acted {t : State} (hstep : step s = .next t) : t = s ∨ ∃ rest, Acted { s with pending := rest } t := by
  unfold step at hstep
  split at hstep
  · cases hstep
    exact .inl rfl
  · rename_i c rest _
    obtain ⟨u, hexec, hacted⟩ := exec_acted c { s with pending := rest }
    rw [hexec] at hstep
    cases hstep
    exact .inr ⟨rest, hacted⟩

/-- A law that speaks of no waiting command is kept by every step when every change of `Acted` keeps it. -/
theorem step_keeps {I : State → Prop} (hpending : ∀ s rest, I s → I { s with pending := rest })
    (hacted : ∀ s t, Acted s t → I s → I t) {t : State} (hs : I s) (hstep : step s = .next t) : I t := by
  rcases step_acted hstep with rfl | ⟨rest, h⟩
  · exact hs
  · exact hacted _ _ h (hpending s rest hs)

end Commands

end Sys2Proof.Machine

/-! The laws that every change of `Acted` keeps: the canonical form of the tables, the condition entries, the queues with
the engine, and the ports. -/

namespace Sys2Proof.Machine

variable {s t : State}

/-! ## The queue of waiting commands -/

theorem Acted.pending (h : Acted s t) : t.pending = s.pending := by
  induction h with
  | refl => rfl
  | adjusted _ hadjusted ih => exact hadjusted.sameQueues.pending.trans ih
  | link _ p _ _ _ ih => exact (State.setPort_pending _ p _).trans ih
  | firstUp _ p _ _ _ _ ih => exact (State.setPort_pending _ p _).trans ih
  | retrainUp _ p _ _ ih => exact (State.setPort_pending _ p _).trans ih
  | newSession _ p _ _ _ _ ih => exact (State.setPort_pending _ p _).trans ih
  | returnCredit _ p ih =>
    unfold Machine.returnCredit
    split
    · exact (State.setPort_pending _ p _).trans ih
    · exact ih
  | acceptPacket _ p _ _ _ ih => exact (State.setPort_pending _ p _).trans ih
  | takeFromBuffer _ p _ ih => exact (State.setPort_pending _ p _).trans ih
  | transmit _ p _ _ ih => exact (State.setPort_pending _ p _).trans ih
  | announceOwn _ ih | fillReservation _ _ _ ih | joinBatches _ _ _ ih | sent _ _ _ _ _ _ _ ih | runCount _ _ _ ih
  | beginBatch _ _ _ _ _ _ ih | tookRecord _ _ _ _ _ _ _ _ _ ih | finishBatch _ _ _ _ _ _ ih | emptyQueues _ ih
  | powerOn _ _ _ ih | assertPin _ ih => exact ih

/-! ## The tables' canonical form -/

theorem Table.canonical_nil {α : Type} {d : α} {bound : Nat} : Table.Canonical d bound ([] : Table α) :=
  ⟨Table.wf_nil, nofun⟩

section Canonical

variable {α : Type} [DecidableEq α] {d : α} {bound : Nat} {t : Table α}

theorem Table.Canonical.set (h : Table.Canonical d bound t) {k : Nat} (hk : k < bound) (v : α) :
    Table.Canonical d bound (Table.set d t k v) where
  wf := Table.wf_set h.wf k v
  within e he := by
    rcases Table.mem_set he with rfl | hmem
    · exact hk
    · exact h.within e hmem

theorem Table.Canonical.mapValues (h : Table.Canonical d bound t) (f : α → α) :
    Table.Canonical d bound (Table.mapValues d f t) where
  wf := Table.wf_mapValues h.wf f
  within e he := by
    obtain ⟨e', hmem, rfl⟩ := List.mem_map.mp (List.mem_filter.mp he).1
    exact h.within e' hmem

end Canonical

theorem CondKind.number_lt (k : CondKind) : k.number < 11 := by
  cases k <;> decide

theorem Adjusted.canonical (h : Adjusted s t) (hs : TablesCanonical s) : TablesCanonical t := by
  induction h with
  | refl => exact hs
  | setSlot _ n x ih => exact { ih with slots := ih.slots.set n.isLt x }
  | setGate _ g x ih => exact { ih with gates := ih.gates.set g.isLt x }
  | setSource _ i x ih => exact { ih with sources := ih.sources.set i.isLt x }
  | setDomain _ d x ih => exact { ih with domains := ih.domains.set d.isLt x }
  | setStream _ i x ih => exact { ih with streams := ih.streams.set i.isLt x }
  | setDeadline _ k x ih => exact { ih with deadlines := ih.deadlines.set k.isLt x }
  | setLevel _ l q ih => exact { ih with ladder := ih.ladder.set l.isLt q }
  | setTagged _ src tag n ih => exact { ih with tagIndex := ih.tagIndex.set (src ++ tag).isLt n }
  | answers _ _ ih | pages _ _ _ _ ih | settings _ _ _ _ _ _ ih | time _ _ ih => exact { ih with }
  | raise _ k x ih | clearCond _ k ih | storeMask _ k x ih =>
    exact { ih with conditions := ih.conditions.set k.number_lt _ }
  | clearCollections _ ih =>
    exact { ih with
      ladder := Table.canonical_nil, tagIndex := Table.canonical_nil, gates := ih.gates.mapValues Gate.emptied
      sources := ih.sources.mapValues (fun e => { e with outstanding := 0 })
      domains := ih.domains.mapValues (fun e => { e with active := 0 }) }
  | restartTables _ ih =>
    exact { ih with
      gates := ih.gates.mapValues _, sources := ih.sources.mapValues _, domains := ih.domains.mapValues _
      conditions := ih.conditions.mapValues _ }

/-- Ports, queues and the engine are no tables. -/
theorem TablesCanonical.setPort (hs : TablesCanonical s) (p : PortId) (x : Port) : TablesCanonical (s.setPort p x) := by
  cases p <;> exact { hs with }

/-- At power-on the strap source's entry is the only one that is listed. -/
theorem powerOn_canonical (straps : SourceNo) (stored : Byte) (pending : List Instr) :
    TablesCanonical (powerOn straps stored pending) where
  sources :=
    { wf := ⟨List.pairwise_singleton _ _, by simp only [powerOn, List.forall_mem_singleton]; decide⟩
      within := by
        simp only [powerOn, List.forall_mem_singleton]
        exact straps.isLt }
  domains := Table.canonical_nil
  streams := Table.canonical_nil
  gates := Table.canonical_nil
  slots := Table.canonical_nil
  tagIndex := Table.canonical_nil
  ladder := Table.canonical_nil
  deadlines := Table.canonical_nil
  conditions := Table.canonical_nil

theorem Acted.canonical (h : Acted s t) (hs : TablesCanonical s) : TablesCanonical t := by
  induction h with
  | refl => exact hs
  | adjusted _ hadjusted ih => exact hadjusted.canonical ih
  | link _ p _ _ _ ih => exact ih.setPort p _
  | firstUp _ p _ _ _ _ ih => exact ih.setPort p _
  | retrainUp _ p _ _ ih => exact ih.setPort p _
  | newSession _ p _ _ _ _ ih => exact ih.setPort p _
  | returnCredit _ p ih =>
    unfold Machine.returnCredit
    split
    · exact ih.setPort p _
    · exact ih
  | acceptPacket _ p _ _ _ ih => exact ih.setPort p _
  | takeFromBuffer _ p _ ih => exact ih.setPort p _
  | transmit _ p _ _ ih => exact ih.setPort p _
  | announceOwn _ ih | fillReservation _ _ _ ih | joinBatches _ _ _ ih | sent _ _ _ _ _ _ _ ih | runCount _ _ _ ih
  | beginBatch _ _ _ _ _ _ ih | tookRecord _ _ _ _ _ _ _ _ _ ih | finishBatch _ _ _ _ _ _ ih | emptyQueues _ ih =>
    exact { ih with }
  | powerOn _ straps stored _ => exact powerOn_canonical straps stored _
  | @assertPin u _ _ => exact { powerOn_canonical u.straps u.storedSession u.pending with }

/-! ## Conditions and notices -/

/-- An entry that is set and cleared by the occurrences of R161 keeps flag, count and detail together. -/
theorem CondEntry.Lawful.occur {c : CondEntry} (h : c.Lawful) (x : BitVec 32) : (c.occur x).Lawful := by
  obtain ⟨hcount, hflag, hdetail⟩ := h
  unfold CondEntry.occur
  split
  · rename_i hset
    exact ⟨Nat.min_le_right _ _, ⟨fun _ => by simp only [Config.maxOccurrences]; omega, fun _ => hset⟩, hdetail⟩
  · exact ⟨(by decide : 1 ≤ 65535), by simp, by simp⟩

theorem CondEntry.cleared_lawful (c : CondEntry) : c.cleared.Lawful :=
  ⟨Nat.zero_le _, by simp [CondEntry.cleared], by simp [CondEntry.cleared]⟩

theorem CondEntry.occur_flag (c : CondEntry) (x : BitVec 32) : (c.occur x).flag = true := by
  unfold CondEntry.occur
  split
  · assumption
  · rfl

/-- A law that holds for the unlisted entry and for every changed one holds for each entry after a change of all. -/
theorem Table.get_mapValues_of {α : Type} [DecidableEq α] {d : α} {P : α → Prop} (hd : P d) {f : α → α}
    (hf : ∀ x, P (f x)) (t : Table α) (k : Nat) : P (Table.get d (Table.mapValues d f t) k) := by
  rcases Table.get_mem d (Table.mapValues d f t) k with hunlisted | hmem
  · rw [hunlisted]
    exact hd
  · obtain ⟨e, -, he⟩ := List.mem_map.mp (List.mem_filter.mp hmem).1
    have hvalue : f e.2 = Table.get d (Table.mapValues d f t) k := congrArg Prod.snd he
    rw [← hvalue]
    exact hf e.2

/-- The laws of the condition entries depend on the entries and the pending NOTICEs alone. -/
theorem ConditionsLawful.of_eq (hs : ConditionsLawful s) (hconditions : t.conditions = s.conditions)
    (hnotices : t.notices = s.notices) : ConditionsLawful t := by
  have hcond (k : CondKind) : t.cond k = s.cond k := congrArg (Table.get CondEntry.reset · k.number) hconditions
  exact ⟨fun k => hcond k ▸ hs.entries k, hnotices ▸ hs.once, fun k hk => hcond k ▸ hs.flagged k (hnotices ▸ hk)⟩

theorem ConditionsLawful.raise (hs : ConditionsLawful s) (k : CondKind) (x : BitVec 32) :
    ConditionsLawful (raise k x s) where
  entries j := by
    rw [cond_raise]
    split
    · exact (hs.entries k).occur x
    · exact hs.entries j
  once := by
    by_cases hqueued : (s.cond k).flag = false ∧ (s.cond k).masked = false
    · rw [(raise_raised s k x).queued hqueued.1 hqueued.2]
      refine List.nodup_append.mpr ⟨hs.once, List.nodup_singleton k, fun j hj j' hj' heq => ?_⟩
      obtain rfl : j = k := heq.trans (List.mem_singleton.mp hj')
      simp [hs.flagged j hj] at hqueued
    · rw [(raise_raised s k x).silent (by simpa [Classical.or_iff_not_imp_left] using hqueued)]
      exact hs.once
  flagged j hj := by
    rw [cond_raise]
    split
    · exact CondEntry.occur_flag _ x
    · rename_i hne
      refine hs.flagged j ?_
      simp only [Machine.raise] at hj
      split at hj
      · exact (List.mem_append.mp hj).resolve_right fun hlast => hne (List.mem_singleton.mp hlast)
      · exact hj

theorem ConditionsLawful.clearCond (hs : ConditionsLawful s) (k : CondKind) : ConditionsLawful (clearCond k s) where
  entries j := by
    by_cases hj : j = k
    · rw [hj, (clearCond_cleared s k).entry]
      exact (s.cond k).cleared_lawful
    · rw [(clearCond_cleared s k).others j hj]
      exact hs.entries j
  once := hs.once.filter _
  flagged j hj := by
    obtain ⟨hmem, hne⟩ := List.mem_filter.mp hj
    rw [(clearCond_cleared s k).others j (bne_iff_ne.mp hne)]
    exact hs.flagged j hmem

theorem cond_storeMask (k j : CondKind) (m : Bool) (s : State) :
    (storeMask k m s).cond j = if j = k then { s.cond k with masked := m } else s.cond j :=
  State.cond_setCond s k j _

theorem ConditionsLawful.storeMask (hs : ConditionsLawful s) (k : CondKind) (m : Bool) :
    ConditionsLawful (storeMask k m s) where
  entries j := by
    rw [cond_storeMask]
    split
    · exact hs.entries k
    · exact hs.entries j
  once := by
    simp only [Machine.storeMask]
    split
    · rename_i hqueued
      have hout : k ∉ s.notices := by simpa using (Bool.and_eq_true_iff.mp hqueued).2
      exact List.nodup_append.mpr ⟨hs.once, List.nodup_singleton k, fun j hj j' hj' heq =>
        hout (List.mem_singleton.mp hj' ▸ heq ▸ hj)⟩
    · exact hs.once
  flagged j hj := by
    have hflag : (s.cond j).flag = true := by
      simp only [Machine.storeMask] at hj
      split at hj
      · rename_i hqueued
        rcases List.mem_append.mp hj with hmem | hlast
        · exact hs.flagged j hmem
        · rw [List.mem_singleton.mp hlast]
          simp only [Bool.and_eq_true] at hqueued
          exact hqueued.1.2
      · exact hs.flagged j hj
    rw [cond_storeMask]
    split
    · rename_i heq
      exact heq ▸ hflag
    · exact hflag

/-- No entry is set: the state of the condition unit at power-on and after a RESTART. -/
theorem ConditionsLawful.of_cleared (hentries : ∀ k, (t.cond k).Lawful) (hnotices : t.notices = []) :
    ConditionsLawful t :=
  ⟨hentries, hnotices ▸ List.nodup_nil, hnotices ▸ nofun⟩

theorem Adjusted.conditionsLawful (h : Adjusted s t) (hs : ConditionsLawful s) : ConditionsLawful t := by
  induction h with
  | refl => exact hs
  | raise _ k x ih => exact ih.raise k x
  | clearCond _ k ih => exact ih.clearCond k
  | storeMask _ k m ih => exact ih.storeMask k m
  | restartTables _ _ =>
    exact .of_cleared (fun k => Table.get_mapValues_of CondEntry.reset_lawful CondEntry.cleared_lawful _ _) rfl
  | setSlot _ _ _ ih | setGate _ _ _ ih | setSource _ _ _ ih | setDomain _ _ _ ih | setStream _ _ _ ih
  | setDeadline _ _ _ ih | setLevel _ _ _ ih | setTagged _ _ _ _ ih | answers _ _ ih | pages _ _ _ _ ih
  | settings _ _ _ _ _ _ ih | time _ _ ih | clearCollections _ ih => exact ih.of_eq rfl rfl

theorem ConditionsLawful.setPort (hs : ConditionsLawful s) (p : PortId) (x : Port) :
    ConditionsLawful (s.setPort p x) :=
  hs.of_eq (State.setPort_conditions s p x) (State.setPort_notices s p x)

theorem Acted.conditionsLawful (h : Acted s t) (hs : ConditionsLawful s) : ConditionsLawful t := by
  induction h with
  | refl => exact hs
  | adjusted _ hadjusted ih => exact hadjusted.conditionsLawful ih
  | link _ p _ _ _ ih => exact ih.setPort p _
  | firstUp _ p _ _ _ _ ih => exact ih.setPort p _
  | retrainUp _ p _ _ ih => exact ih.setPort p _
  | newSession _ p _ _ _ _ ih => exact ih.setPort p _
  | returnCredit _ p ih =>
    unfold Machine.returnCredit
    split
    · exact ih.setPort p _
    · exact ih
  | acceptPacket _ p _ _ _ ih => exact ih.setPort p _
  | takeFromBuffer _ p _ ih => exact ih.setPort p _
  | transmit _ p _ _ ih => exact ih.setPort p _
  | sent _ _ _ _ hnotices _ _ ih =>
    exact ⟨ih.entries, ih.once.sublist hnotices, fun k hk => ih.flagged k (hnotices.mem hk)⟩
  | announceOwn _ ih | fillReservation _ _ _ ih | joinBatches _ _ _ ih | runCount _ _ _ ih
  | beginBatch _ _ _ _ _ _ ih | tookRecord _ _ _ _ _ _ _ _ _ ih | finishBatch _ _ _ _ _ _ ih | emptyQueues _ ih =>
    exact ih.of_eq rfl rfl
  | powerOn _ _ _ _ | assertPin _ _ => exact .of_cleared (fun _ => CondEntry.reset_lawful) rfl

/-! ## Queues and the engine -/

/-- The bounds of the queues with the laws of the engine. -/
structure QueuesKept (s : State) : Prop where
  queues : QueuesBounded s
  engine : EngineLawful s

theorem QueuesKept.of_same (hs : QueuesKept s) (h : SameQueues s t) : QueuesKept t where
  queues :=
    { initRx := (congrArg (·.rx.length) (h.port .initiator)).trans_le hs.queues.initRx
      svcRx := (congrArg (·.rx.length) (h.port .service)).trans_le hs.queues.svcRx
      brief := h.brief.symm ▸ hs.queues.brief
      reports := h.reports.symm ▸ hs.queues.reports
      batches := h.batches.symm ▸ hs.queues.batches
      run := h.run.symm ▸ hs.queues.run }
  engine :=
    { applying := by
        rw [h.engine, h.reports, h.batches]
        exact hs.engine.applying
      idle := by
        rw [h.engine, h.batches]
        exact hs.engine.idle }

/-- A port's change keeps the queues when its receive buffer stays within its bound. -/
theorem QueuesKept.setPort (hs : QueuesKept s) (p : PortId) {x : Port} (hrx : x.rx.length ≤ 16) :
    QueuesKept (s.setPort p x) := by
  cases p with
  | initiator => exact ⟨{ hs.queues with initRx := hrx }, { hs.engine with }⟩
  | service => exact ⟨{ hs.queues with svcRx := hrx }, { hs.engine with }⟩

theorem QueuesKept.rx (hs : QueuesKept s) (p : PortId) : (s.port p).rx.length ≤ 16 := by
  cases p with
  | initiator => exact hs.queues.initRx
  | service => exact hs.queues.svcRx

theorem newBatch_fresh (p : Packet) : (newBatch p).Fresh :=
  ⟨rfl, rfl, rfl, rfl, rfl, rfl⟩

theorem Batch.begun_inProgress {b : Batch} (h : b.Fresh) : b.begun.InProgress := by
  obtain ⟨-, -, -, hstopped, hentries, happlied⟩ := h
  exact ⟨le_rfl, (by decide : 1 ≤ 32), by simp [Batch.begun, hentries], by simp [Batch.begun, happlied], hstopped,
    by simp [Batch.begun]⟩

theorem Batch.took_inProgress {b : Batch} (h : b.InProgress) (hposition : b.position < 32) (r : Record) (st : Status)
    (data : List Byte) : (b.took r st data).InProgress := by
  obtain ⟨hlow, -, hentries, happlied, hstopped, -⟩ := h
  refine ⟨by simp [Batch.took], hposition, by simp [Batch.took, hentries], by simp [Batch.took, happlied], hstopped, ?_⟩
  simp only [Batch.took]
  exact ⟨nofun, fun hfirst => by omega⟩

theorem QueuesKept.joinBatches (hs : QueuesKept s) (p : Packet) (hroom : s.batches.length < 4) :
    QueuesKept { s with batches := s.batches ++ [newBatch p] } where
  queues := { hs.queues with batches := by simp only [List.length_append, List.length_singleton]; exact hroom }
  engine :=
    { applying := fun happlying => by
        obtain ⟨hreports, b, rest, hhead, hprogress, hfresh⟩ := hs.engine.applying happlying
        refine ⟨hreports, b, rest ++ [newBatch p], by simp [hhead], hprogress, fun c hc => ?_⟩
        rcases List.mem_append.mp hc with hmem | hlast
        · exact hfresh c hmem
        · exact List.mem_singleton.mp hlast ▸ newBatch_fresh p
      idle := fun hidle c hc => by
        rcases List.mem_append.mp hc with hmem | hlast
        · exact hs.engine.idle hidle c hmem
        · exact List.mem_singleton.mp hlast ▸ newBatch_fresh p }

theorem QueuesKept.sent (hs : QueuesKept s) {notices : List CondKind} {reports : List Report} {brief : List BriefAnswer}
    (hreports : reports.Sublist s.reports) (hbrief : brief.Sublist s.brief) :
    QueuesKept { s with notices := notices, reports := reports, brief := brief } where
  queues := { hs.queues with
    brief := hbrief.length_le.trans hs.queues.brief, reports := hreports.length_le.trans hs.queues.reports }
  engine := { hs.engine with
    applying := fun happlying => (hs.engine.applying happlying).imp_left hreports.length_le.trans_lt }

theorem QueuesKept.beginBatch (hs : QueuesKept s) {b : Batch} {waiting : List Batch} (hidle : s.engine = .idle)
    (hhead : s.batches = b :: waiting) (hroom : s.reports.length < 4) :
    QueuesKept { setHeadBatch b.begun s with engine := .applying } := by
  have hfresh := hs.engine.idle hidle
  rw [hhead] at hfresh
  refine ⟨{ hs.queues with batches := ?_ }, ⟨fun _ => ⟨hroom, b.begun, waiting, ?_, ?_, ?_⟩, nofun⟩⟩
  · have hlength := hs.queues.batches
    simpa [setHeadBatch, hhead] using hlength
  · simp [setHeadBatch, hhead]
  · exact Batch.begun_inProgress (hfresh b List.mem_cons_self)
  · exact fun c hc => hfresh c (List.mem_cons_of_mem _ hc)

theorem QueuesKept.tookRecord (hs : QueuesKept s) {b : Batch} {waiting : List Batch} (happlying : s.engine = .applying)
    (hhead : s.batches = b :: waiting) (hposition : b.position < 32) (r : Record) (st : Status) (data : List Byte) :
    QueuesKept (setHeadBatch (b.took r st data) s) := by
  obtain ⟨hreports, b', rest, hhead', hprogress, hfresh⟩ := hs.engine.applying happlying
  obtain ⟨rfl, rfl⟩ := List.cons.inj (hhead.symm.trans hhead')
  refine ⟨{ hs.queues with batches := ?_ }, ⟨fun _ => ⟨hreports, b.took r st data, waiting, ?_, ?_, hfresh⟩, fun hidle => ?_⟩⟩
  · have hlength := hs.queues.batches
    simpa [setHeadBatch, hhead] using hlength
  · simp [setHeadBatch, hhead]
  · exact Batch.took_inProgress hprogress hposition r st data
  · exact absurd (happlying.symm.trans hidle) nofun

theorem QueuesKept.finishBatch (hs : QueuesKept s) {b : Batch} {waiting : List Batch} (happlying : s.engine = .applying)
    (hhead : s.batches = b :: waiting) (b' : Batch) : QueuesKept (finishBatch b' s) := by
  obtain ⟨hreports, b'', rest, hhead', -, hfresh⟩ := hs.engine.applying happlying
  obtain ⟨rfl, rfl⟩ := List.cons.inj (hhead.symm.trans hhead')
  have htail : s.batches.tail = waiting := by rw [hhead, List.tail_cons]
  refine ⟨{ hs.queues with reports := ?_, batches := ?_ }, ⟨nofun, fun _ c hc => hfresh c (htail ▸ hc)⟩⟩
  · simp only [Machine.finishBatch, List.length_append, List.length_singleton]
    exact hreports
  · exact (List.tail_sublist _).length_le.trans hs.queues.batches

/-- Empty queues and an idle engine meet every bound, whatever the part holds otherwise. -/
theorem QueuesKept.of_empty (hinit : t.initPort.rx.length ≤ 16) (hsvc : t.svcPort.rx.length ≤ 16) (hbrief : t.brief = [])
    (hreports : t.reports = []) (hbatches : t.batches = []) (hengine : t.engine = .idle) (hrun : t.runCount = 0) :
    QueuesKept t where
  queues := ⟨hinit, hsvc, by simp [hbrief], by simp [hreports], by simp [hbatches], by simp [hrun]⟩
  engine := ⟨fun happlying => absurd (happlying.symm.trans hengine) nofun, fun _ => hbatches ▸ nofun⟩

theorem Acted.queuesKept (h : Acted s t) (hs : QueuesKept s) : QueuesKept t := by
  induction h with
  | refl => exact hs
  | adjusted _ hadjusted ih => exact ih.of_same hadjusted.sameQueues
  | link _ p _ _ _ ih => exact ih.setPort p (ih.rx p)
  | firstUp _ p _ _ _ _ ih => exact ih.setPort p (ih.rx p)
  | retrainUp _ p _ _ ih => exact ih.setPort p (ih.rx p)
  | newSession _ p _ _ _ _ ih => exact ih.setPort p (Nat.zero_le _)
  | announceOwn _ ih => exact ⟨{ ih.queues with }, { ih.engine with }⟩
  | returnCredit _ p ih =>
    unfold Machine.returnCredit
    split
    · exact ih.setPort p (ih.rx p)
    · exact ih
  | acceptPacket _ p _ _ hroom ih =>
    refine ih.setPort p ?_
    simp only [List.length_append, List.length_singleton]
    exact hroom
  | takeFromBuffer _ p _ ih => exact ih.setPort p ((List.tail_sublist _).length_le.trans (ih.rx p))
  | transmit _ p _ _ ih => exact ih.setPort p (ih.rx p)
  | fillReservation _ _ hroom ih =>
    refine ⟨{ ih.queues with brief := ?_ }, { ih.engine with }⟩
    simp only [Machine.fillReservation, List.length_append, List.length_singleton]
    exact hroom
  | joinBatches _ p hroom ih => exact ih.joinBatches p hroom
  | sent _ _ _ _ _ hreports hbrief ih => exact ih.sent hreports hbrief
  | runCount _ _ hrun ih => exact ⟨{ ih.queues with run := hrun }, { ih.engine with }⟩
  | beginBatch _ _ _ hidle hhead hroom ih => exact ih.beginBatch hidle hhead hroom
  | tookRecord _ _ _ happlying hhead hposition r st data ih =>
    exact ih.tookRecord happlying hhead hposition r st data
  | finishBatch _ _ b' _ happlying hhead ih => exact ih.finishBatch happlying hhead b'
  | emptyQueues _ ih => exact .of_empty ih.queues.initRx ih.queues.svcRx rfl rfl rfl rfl rfl
  | powerOn _ _ _ _ | assertPin _ _ => exact .of_empty (Nat.zero_le _) (Nat.zero_le _) rfl rfl rfl rfl rfl

/-! ## Ports -/

/-- The port laws port by port, with the pin's law for both links. -/
theorem portsLawful_iff : PortsLawful s ↔
    (∀ p, (s.port p).Lawful) ∧ (s.resetAsserted = true → ∀ p, (s.port p).link = .down) := by
  constructor
  · rintro ⟨hinit, hsvc, hdown⟩
    exact ⟨fun p => by cases p <;> assumption, fun hpin p => by
      obtain ⟨hi, hs⟩ := hdown hpin
      cases p <;> assumption⟩
  · rintro ⟨hports, hdown⟩
    exact ⟨hports .initiator, hports .service, fun hpin => ⟨hdown hpin .initiator, hdown hpin .service⟩⟩

theorem PortsLawful.port (hs : PortsLawful s) (p : PortId) : (s.port p).Lawful :=
  (portsLawful_iff.mp hs).1 p

/-- Only a port that was UP is UP or holds anything. -/
theorem Port.Lawful.announced {q : Port} (h : q.Lawful) (hlink : q.link = .up) : q.announced = true := by
  by_contra hnever
  exact (h.before (Bool.eq_false_iff.mpr hnever)).1 hlink

/-- A port's change keeps the laws when the port is lawful and a link that leaves DOWN finds the pin released. -/
theorem PortsLawful.setPort (hs : PortsLawful s) (p : PortId) {x : Port} (hx : x.Lawful)
    (hdown : s.resetAsserted = true → x.link = .down) : PortsLawful (s.setPort p x) := by
  refine portsLawful_iff.mpr ⟨fun q => ?_, fun hpin q => ?_⟩
  · rw [State.port_setPort]
    split
    · exact hx
    · exact hs.port q
  · rw [State.setPort_resetAsserted] at hpin
    rw [State.port_setPort]
    split
    · exact hdown hpin
    · exact (portsLawful_iff.mp hs).2 hpin q

/-- A change of a port that leaves its link keeps the laws when the port is lawful. -/
theorem PortsLawful.setPort_sameLink (hs : PortsLawful s) (p : PortId) {x : Port} (hx : x.Lawful)
    (hlink : x.link = (s.port p).link) : PortsLawful (s.setPort p x) :=
  hs.setPort p hx fun hpin => hlink.trans ((portsLawful_iff.mp hs).2 hpin p)

/-- A port that is not DOWN moves while the pin is released. -/
theorem PortsLawful.setPort_awake (hs : PortsLawful s) (p : PortId) {x : Port} (hx : x.Lawful)
    (hawake : (s.port p).link ≠ .down) : PortsLawful (s.setPort p x) :=
  hs.setPort p hx fun hpin => absurd ((portsLawful_iff.mp hs).2 hpin p) hawake

theorem PortsLawful.of_same (hs : PortsLawful s) (hport : ∀ p, t.port p = s.port p)
    (hpin : t.resetAsserted = s.resetAsserted) : PortsLawful t := by
  refine portsLawful_iff.mpr ⟨fun p => hport p ▸ hs.port p, fun hasserted p => ?_⟩
  rw [hport p]
  exact (portsLawful_iff.mp hs).2 (hpin ▸ hasserted) p

/-- A link that is not UP brings no packet or credit. -/
theorem Port.Lawful.link {q : Port} (h : q.Lawful) {st : LinkState} (hst : st ≠ .up) : { q with link := st }.Lawful :=
  { h with before := fun hnever => ⟨hst, (h.before hnever).2⟩ }

theorem Port.Lawful.firstUp {q : Port} (h : q.Lawful) (hfirst : q.announced = false) (credit session : Byte)
    (signals : List LinkSignal) : { q with
      link := .up, session := session, announced := true, credit := credit.toNat, creditLimit := credit.toNat
      partnerCredit := Config.rxCapacity, signals := signals }.Lawful where
  credit := ⟨le_rfl, Nat.le_of_lt_succ credit.isLt⟩
  before := nofun
  account _ := by
    obtain ⟨-, -, -, hrx, -⟩ := h.before hfirst
    simp [hrx]

theorem Port.newSession_lawful (q : Port) (credit session own : Byte) : (q.newSession credit session own).Lawful where
  credit := ⟨le_rfl, Nat.le_of_lt_succ credit.isLt⟩
  before := nofun
  account _ := rfl

theorem Port.Lawful.acceptPacket {q : Port} (h : q.Lawful) (hlink : q.link = .up) (hroom : q.rx.length < 16) (x : Packet)
    (signals : List LinkSignal) :
    { q with rx := q.rx ++ [x], partnerCredit := q.partnerCredit - 1, signals := signals }.Lawful where
  credit := h.credit
  before hnever := absurd hlink (h.before hnever).1
  account hannounced := by
    have haccount := h.account hannounced
    simp only [List.length_append, List.length_singleton]
    omega

theorem Port.Lawful.takeOldest {q : Port} (h : q.Lawful) (hrx : q.rx ≠ []) (signals : List LinkSignal) :
    { q with rx := q.rx.tail, partnerCredit := q.partnerCredit + 1, signals := signals }.Lawful where
  credit := h.credit
  before hnever := absurd (h.before hnever).2.2.2.1 hrx
  account hannounced := by
    have haccount := h.account hannounced
    have hpositive := List.length_pos_iff.mpr hrx
    simp only [List.length_tail]
    omega

theorem Port.Lawful.transmit {q : Port} (h : q.Lawful) (hlink : q.link = .up) (x : Packet) :
    { q with credit := q.credit - 1, tx := q.tx ++ [x] }.Lawful where
  credit := ⟨(Nat.sub_le _ _).trans h.credit.1, h.credit.2⟩
  before hnever := absurd hlink (h.before hnever).1
  account := h.account

theorem PortsLawful.returnCredit (hs : PortsLawful s) (p : PortId) : PortsLawful (returnCredit p s) := by
  unfold Machine.returnCredit
  split
  · rename_i hguard
    have hport := hs.port p
    exact hs.setPort_sameLink p { hport with credit := ⟨hguard.2, hport.credit.2⟩ } rfl
  · exact hs

theorem Acted.portsLawful (h : Acted s t) (hs : PortsLawful s) : PortsLawful t := by
  induction h with
  | refl => exact hs
  | adjusted _ hadjusted ih => exact ih.of_same hadjusted.sameQueues.port hadjusted.sameQueues.pin
  | link _ p st hst hpin ih =>
    refine ih.setPort p ((ih.port p).link hst) fun hasserted => ?_
    rcases hpin with hdown | hreleased | hup
    · exact hdown
    · simp [hasserted] at hreleased
    · simp [(portsLawful_iff.mp ih).2 hasserted p] at hup
  | firstUp _ p credit session hlink hfirst ih =>
    exact ih.setPort_awake p ((ih.port p).firstUp hfirst credit session _) (by simp [hlink])
  | retrainUp _ p hlink hannounced ih =>
    have hport := ih.port p
    exact ih.setPort_awake p { hport with before := fun hnever => by simp [hannounced] at hnever } (by simp [hlink])
  | newSession _ p credit session own hlink ih =>
    exact ih.setPort_awake p (Port.newSession_lawful _ credit session own) (by simp [hlink])
  | returnCredit _ p ih => exact ih.returnCredit p
  | acceptPacket _ p x hlink hroom ih => exact ih.setPort_sameLink p ((ih.port p).acceptPacket hlink hroom x _) rfl
  | takeFromBuffer _ p hrx ih => exact ih.setPort_sameLink p ((ih.port p).takeOldest hrx _) rfl
  | transmit _ p x hlink ih => exact ih.setPort_sameLink p ((ih.port p).transmit hlink x) rfl
  | announceOwn _ ih | fillReservation _ _ _ ih | joinBatches _ _ _ ih | sent _ _ _ _ _ _ _ ih | runCount _ _ _ ih
  | beginBatch _ _ _ _ _ _ ih | tookRecord _ _ _ _ _ _ _ _ _ ih | finishBatch _ _ _ _ _ _ ih | emptyQueues _ ih =>
    exact { ih with }
  | powerOn _ _ _ _ => exact ⟨Port.reset_lawful, Port.reset_lawful, nofun⟩
  | assertPin _ _ => exact ⟨Port.reset_lawful, Port.reset_lawful, fun _ => ⟨rfl, rfl⟩⟩

end Sys2Proof.Machine

namespace Sys2Proof.Proofs

open Sys2Proof.Machine

/-- Settles O2: no change that a command makes reaches the queue of waiting commands. -/
theorem everyCommandAnswers : Obligations.EveryCommandAnswers := by
  intro c s
  obtain ⟨t, hexec, hacted⟩ := exec_acted c s
  exact ⟨t, hexec, hacted.pending⟩

/-- Settles O52: tables change by setting an entry below the table's bound, by changing all their entries, or by being
emptied. -/
theorem stepKeepsTablesCanonical : Obligations.StepKeepsTablesCanonical := by
  intro s t
  exact step_keeps (fun _ _ hs => { hs with }) fun _ _ hacted => hacted.canonical

/-- Settles O53: a raising queues a NOTICE only when it sets a clear flag, whose kind is on no NOTICE yet. -/
theorem stepKeepsConditionsLawful : Obligations.StepKeepsConditionsLawful := by
  intro s t
  exact step_keeps (fun _ _ hs => hs.of_eq rfl rfl) fun _ _ hacted => hacted.conditionsLawful

/-- Settles O54: each queue grows under the guard of its bound, and the head batch moves on only at a position below 32. -/
theorem stepKeepsQueuesAndEngine : Obligations.StepKeepsQueuesAndEngine := by
  intro s t ⟨hqueues, hengine⟩ hstep
  have hkept : QueuesKept t := step_keeps (I := QueuesKept)
    (fun _ _ hs => ⟨{ hs.queues with }, { hs.engine with }⟩) (fun _ _ hacted => hacted.queuesKept) ⟨hqueues, hengine⟩ hstep
  exact ⟨hkept.queues, hkept.engine⟩

/-- Settles O55: a port that was never UP is not UP, so it neither receives nor sends, and each packet that enters or
leaves the receive buffer moves one of the partner's credits. -/
theorem stepKeepsPortsLawful : Obligations.StepKeepsPortsLawful := by
  intro s t
  exact step_keeps (fun _ _ hs => { hs with }) fun _ _ hacted => hacted.portsLawful

end Sys2Proof.Proofs

/-! The step on a queue, power-on and the reset pin (R177), the ports (R167 to R170), storage errors (R144) and device time
(R94): what each command does, and the obligations that state it. -/

namespace Sys2Proof.Machine

variable {s : State} {p : PortId}

/-! ## Power-on (R177) -/

theorem freeCount_of_no_slots (hslots : s.slots = []) : s.freeCount = 1024 := by
  have hfree : ∀ n ∈ List.range Config.numSlots, decide ((s.slots.get Slot.reset n).state = .free) = true := fun n _ => by
    rw [hslots]
    rfl
  rw [State.freeCount, State.freeList, List.filter_eq_self.mpr hfree, List.length_map, List.length_range]

/-- Reading a table that lists one entry, by a word. -/
theorem Table.get_singleton {α : Type} {w : Nat} (d v : α) (i k : BitVec w) :
    Table.get d [(i.toNat, v)] k.toNat = if k = i then v else d := by
  by_cases hk : k = i
  · simp [Table.get, hk]
  · rw [if_neg hk, Table.get, if_neg (fun heq => hk (BitVec.eq_of_toNat_eq heq.symm)), Table.get]

/-- The strap source is the one MANAGER at power-on (R145, R177). -/
theorem powerOn_source (straps i : SourceNo) (stored : Byte) (pending : List Instr) :
    (powerOn straps stored pending).source i = { SourceEntry.reset with
      state := if i = straps then .manager else .disabled, limit := if i = straps then 64 else 16 } := by
  refine (Table.get_singleton _ _ straps i).trans ?_
  by_cases hi : i = straps
  · rw [if_pos hi, if_pos hi, if_pos hi]
    rfl
  · rw [if_neg hi, if_neg hi, if_neg hi]
    rfl

/-! ## Link states (R167) -/

theorem moveLink_moved (p : PortId) (st : LinkState) (s : State) : LinkMoved p st s (moveLink p st s) := by
  have hraised := raise_raised (s.setPort p { s.port p with link := st }) (linkCondition p)
    (st.code ++ (s.port p).session ++ (0 : BitVec 16))
  have hdetail : linkDetail ((s.setPort p { s.port p with link := st }).port p).link
      ((s.setPort p { s.port p with link := st }).port p).session = st.code ++ (s.port p).session ++ (0 : BitVec 16) := by
    rw [State.port_setPort_same]
    rfl
  rw [← hdetail] at hraised
  rw [LinkMoved, ← hdetail]
  exact hraised

theorem exec_signallingDetected_moves (hdown : (s.port p).link = .down) (hpin : s.resetAsserted = false) :
    exec (.signallingDetected p) s = .next (moveLink p .training s) :=
  congrArg Host.Outcome.next (if_pos ⟨hdown, hpin⟩)

theorem exec_signallingDetected_stays (hfails : (s.port p).link ≠ .down ∨ s.resetAsserted = true) :
    exec (.signallingDetected p) s = .next s := by
  refine congrArg Host.Outcome.next (if_neg ?_)
  rintro ⟨hdown, hpin⟩
  rcases hfails with hother | hasserted
  · exact hother hdown
  · simp [hpin] at hasserted

/-! ## UP (R170) -/

/-- The detail of the LINK CHANGE that ends an UP, once the port stands at UP with the announced number. -/
theorem raiseLinkChange_up {session : Byte} (hlink : (s.port p).link = .up) (hsession : (s.port p).session = session) :
    Raised (linkCondition p) ((2 : Byte) ++ session ++ (0 : BitVec 16)) s (raiseLinkChange p s) := by
  rw [raiseLinkChange, hlink, hsession]
  exact raise_raised s (linkCondition p) _

theorem exec_up_reaches {credit session : Byte} (htraining : (s.port p).link = .training) (hcredit : credit ≠ 0) :
    exec (.up p credit session) s = .next (raiseLinkChange p (reachUp p credit session s)) :=
  congrArg Host.Outcome.next ((if_pos htraining).trans (if_neg hcredit))

theorem exec_up_without_credit {credit session : Byte} (htraining : (s.port p).link = .training) (hcredit : credit = 0) :
    exec (.up p credit session) s = .next (moveLink p .down s) :=
  congrArg Host.Outcome.next ((if_pos htraining).trans (if_pos hcredit))

theorem port_announceOwn (q : PortId) : (announceOwn s).port q = s.port q := by
  cases q <;> rfl

theorem reachUp_first {credit session : Byte} (hfirst : (s.port p).announced = false) :
    reachUp p credit session s = (announceOwn s).setPort p { s.port p with
      link := .up, session := session, announced := true, credit := credit.toNat, creditLimit := credit.toNat
      partnerCredit := 16, signals := (s.port p).signals ++ [.advertise 16 s.ownSession] } := by
  refine (if_pos hfirst).trans ?_
  rw [firstUp, modifyPort_eq, port_announceOwn]
  rfl

theorem reachUp_retrain {credit session : Byte} (hannounced : (s.port p).announced = true)
    (hsame : session = (s.port p).session) :
    reachUp p credit session s = (announceOwn s).setPort p { s.port p with
      link := .up, signals := (s.port p).signals ++ [.advertise 16 s.ownSession] } := by
  refine (if_neg (by simp [hannounced])).trans ((if_pos hsame).trans ?_)
  rw [retrainUp, modifyPort_eq, port_announceOwn]
  rfl

theorem reachUp_sessionChange {credit session : Byte} (hannounced : (s.port p).announced = true)
    (hnew : session ≠ (s.port p).session) :
    reachUp p credit session s = sessionChange p credit session (announceOwn s) :=
  (if_neg (by simp [hannounced])).trans (if_neg hnew)

/-! ## Credits and packets (R65, R168, R169) -/

theorem returnCredit_rises (hup : (s.port p).link = .up) (hbelow : (s.port p).credit < (s.port p).creditLimit) :
    returnCredit p s = s.setPort p { s.port p with credit := (s.port p).credit + 1 } :=
  if_pos ⟨hup, hbelow⟩

theorem returnCredit_ignored (hfails : (s.port p).link ≠ .up ∨ (s.port p).creditLimit ≤ (s.port p).credit) :
    returnCredit p s = s := by
  refine if_neg ?_
  rintro ⟨hup, hbelow⟩
  rcases hfails with hother | hfull
  · exact hother hup
  · omega

theorem exec_packetReceived_accepts {x : Packet} (hup : (s.port p).link = .up) (hroom : (s.port p).rx.length < 16) :
    exec (.packetReceived p x) s = .next (acceptPacket p x s) :=
  congrArg Host.Outcome.next (if_pos ⟨hup, hroom⟩)

theorem exec_packetReceived_ignores {x : Packet} (hfails : (s.port p).link ≠ .up ∨ 16 ≤ (s.port p).rx.length) :
    exec (.packetReceived p x) s = .next s := by
  refine congrArg Host.Outcome.next (if_neg ?_)
  rintro ⟨hup, hroom⟩
  rcases hfails with hother | hfull
  · exact hother hup
  · exact absurd hroom (Nat.not_lt.mpr hfull)

/-! ## Storage errors (R144) -/

theorem exec_checkCodeMismatch_corrupts {m : Mismatch} (hpin : s.resetAsserted = false) :
    exec (.checkCodeMismatch m) s = .next (corrupt m s) :=
  congrArg Host.Outcome.next (if_neg (by simp [hpin]))

theorem corrupt_source (i : SourceNo) (now : Option SourceContents) : corrupt (.source i now) s = s.setSource i
    { s.source i with toSourceContents := now.getD (s.source i).toSourceContents, codeMatches := false } := by
  cases now <;> rfl

theorem corrupt_domain (i : DomainNo) (now : Option DomainContents) : corrupt (.domain i now) s = s.setDomain i
    { s.domain i with toDomainContents := now.getD (s.domain i).toDomainContents, codeMatches := false } := by
  cases now <;> rfl

theorem corrupt_stream (i : StreamIndex) (now : Option StreamContents) : corrupt (.stream i now) s = s.setStream i
    { s.stream i with toStreamContents := now.getD (s.stream i).toStreamContents, codeMatches := false } := by
  cases now <;> rfl

/-! ## Device time (R94) -/

theorem exec_deviceTimeTick_runs (hpin : s.resetAsserted = false) :
    exec .deviceTimeTick s = .next { s with deviceTime := s.deviceTime + 1 } :=
  congrArg Host.Outcome.next (if_neg (by simp [hpin]))

end Sys2Proof.Machine

namespace Sys2Proof.Proofs

open Sys2Proof.Machine

/-- Settles O1: both clauses are the two equations of the step. -/
theorem stepTakesFrontCommand : Obligations.StepTakesFrontCommand :=
  ⟨fun _ _ _ => rfl, fun _ => rfl⟩

/-- Settles O3: no table but that of the sources lists an entry at reset, so every other entry reads as unlisted. -/
theorem powerOnValues : Obligations.PowerOnValues := by
  have hsources : ∀ i : SourceNo, State.reset.source i =
      { state := if i = 0 then .manager else .disabled, cls := .a, limit := if i = 0 then 64 else 16, outstanding := 0
        admitted := 0, refused := 0, codeMatches := true } := fun i => powerOn_source 0 i 0 []
  have hports : ∀ p : PortId, State.reset.port p = Port.reset := fun p => by cases p <;> rfl
  refine ⟨fun _ => rfl, freeCount_of_no_slots rfl, fun _ => rfl, hsources, fun _ => rfl, fun _ => rfl, fun _ => rfl,
    fun _ => rfl, fun _ => rfl, rfl, rfl, rfl, rfl, rfl, rfl, rfl, rfl, rfl, rfl, rfl, rfl, rfl, rfl, rfl, rfl, rfl,
    fun p => ?_⟩
  rw [hports p]
  exact ⟨rfl, rfl, rfl, rfl, rfl⟩

/-- Settles O4: the release of an asserted pin is a power-on, and only an asserted pin is released. -/
theorem resetPinDropsAndReleases : Obligations.ResetPinDropsAndReleases := by
  refine ⟨fun s => ⟨_, rfl, rfl, rfl, rfl, rfl, rfl, rfl⟩, fun s straps hpin => ?_, fun s straps hpin => ?_⟩
  · exact ⟨powerOn straps s.storedSession s.pending, congrArg Host.Outcome.next (if_pos hpin),
      fun i => powerOn_source straps i _ _, rfl⟩
  · exact congrArg Host.Outcome.next (if_neg (by simp [hpin]))

/-- Settles O5: each event tests the link state that it leaves. -/
theorem linkStatesMove : Obligations.LinkStatesMove := by
  intro p s
  have hmoved (st : LinkState) : LinkMoved p st s (moveLink p st s) := moveLink_moved p st s
  exact ⟨fun hdown hpin => ⟨_, exec_signallingDetected_moves hdown hpin, hmoved .training⟩, exec_signallingDetected_stays,
    fun htraining => ⟨_, congrArg Host.Outcome.next (if_pos htraining), hmoved .down⟩,
    fun hother => congrArg Host.Outcome.next (if_neg hother),
    fun hup => ⟨_, congrArg Host.Outcome.next (if_pos hup), hmoved .down⟩,
    fun hother => congrArg Host.Outcome.next (if_neg hother),
    fun hup => ⟨_, congrArg Host.Outcome.next (if_pos hup), hmoved .training⟩,
    fun hother => congrArg Host.Outcome.next (if_neg hother)⟩

/-- Settles O6: an UP is classified by whether the link was UP before and by the announced number, and its LINK CHANGE is
raised on the state that the port has reached. -/
theorem upIsFirstOrRetrain : Obligations.UpIsFirstOrRetrain := by
  intro p credit session s
  refine ⟨fun htraining hcredit hfirst => ?first, fun htraining hcredit hannounced hsame => ?retrain,
    fun htraining hcredit => ⟨_, exec_up_without_credit htraining hcredit, moveLink_moved p .down s⟩,
    fun hother => congrArg Host.Outcome.next (if_neg hother)⟩
  case first =>
    refine ⟨_, exec_up_reaches htraining hcredit, ?_⟩
    rw [reachUp_first hfirst]
    exact raiseLinkChange_up (by rw [State.port_setPort_same]) (by rw [State.port_setPort_same])
  case retrain =>
    refine ⟨_, exec_up_reaches htraining hcredit, ?_⟩
    rw [reachUp_retrain hannounced hsame]
    exact raiseLinkChange_up (by rw [State.port_setPort_same]) (by rw [State.port_setPort_same]; exact hsame.symm)

/-- Settles O9: a packet is taken by an UP port with room, and a credit return by an UP port below its limit. -/
theorem linkDeliversPacketsAndCredits : Obligations.LinkDeliversPacketsAndCredits := by
  refine ⟨fun p x s => ⟨exec_packetReceived_accepts, exec_packetReceived_ignores⟩, fun p s c hc => ?_⟩
  have hexec : exec c s = .next (returnCredit p s) := by
    subst hc
    cases p <;> rfl
  rw [hexec]
  exact ⟨fun hup hbelow => congrArg _ (returnCredit_rises hup hbelow), fun hfails => congrArg _ (returnCredit_ignored hfails)⟩

/-- Settles O10: the operand names one entry, whose contents change when the operand gives new ones. -/
theorem checkCodeMismatchFaultsOneEntry : Obligations.CheckCodeMismatchFaultsOneEntry := by
  refine ⟨fun s hpin => ⟨fun i now => ?_, fun i now => ?_, fun i now => ?_⟩,
    fun m s hpin => congrArg Host.Outcome.next (if_pos hpin)⟩
  · rw [exec_checkCodeMismatch_corrupts hpin, corrupt_source]
  · rw [exec_checkCodeMismatch_corrupts hpin, corrupt_domain]
  · rw [exec_checkCodeMismatch_corrupts hpin, corrupt_stream]

/-- Settles O11. -/
theorem deviceTimeTicks : Obligations.DeviceTimeTicks := by
  refine ⟨fun s hpin => ⟨_, exec_deviceTimeTick_runs hpin, ?_, rfl⟩,
    fun s hpin => congrArg Host.Outcome.next (if_pos hpin)⟩
  exact BitVec.toNat_add s.deviceTime 1

end Sys2Proof.Proofs

/-! Admission (R39 to R59): when a packet fits its kind, what the first failed check does, what an admission that gains a
slot leaves before and after its take, how many of a POST's gives are surplus, and the obligations that state them. -/

namespace Sys2Proof.Machine

variable {k : InKind} {p : Packet} {s t : State} {n m : SlotNo} {g : GateNo}

/-! ## Packets that fit their kind (R41) -/

theorem ofCode_eq_none_iff {c : BitVec 4} : InKind.ofCode c = none ↔ c = 0 ∨ 6 ≤ c.toNat := by
  revert c
  decide

theorem malformed_of_unknown_kind (hcode : p.kindCode = 0 ∨ 6 ≤ p.kindCode.toNat) : malformed p = true := by
  rw [malformed, ofCode_eq_none_iff.mpr hcode]

/-- A packet of a kind is malformed exactly when its fill bits, its payload or its kind's own fields do not fit. -/
theorem malformed_eq_false_iff (hkind : p.kindCode = k.code) : malformed p = false ↔
    p.initiatorFillZero = true ∧ p.payload.length = p.lengthField ∧ fitsKind k p = true := by
  simp [malformed, hkind, ofCode_code, and_assoc]

theorem code_of_ofCode {c : BitVec 4} (hcode : InKind.ofCode c = some k) : c = k.code := by
  revert c
  cases k <;> decide

/-- The row of a kind takes a packet of its own kind, and one whose code is no kind's (R41; log 13). -/
theorem oldestFor_eq_some_of_code {later : List Packet} (hrx : s.initPort.rx = p :: later) (hbrief : s.brief.length < 32)
    (hcode : p.kindCode = k.code ∨ ∀ k' : InKind, p.kindCode ≠ k'.code) : oldestFor k s = some p := by
  rcases hcode with hkind | hunknown
  · exact oldestFor_eq_some hrx hbrief hkind
  · have hnone : InKind.ofCode p.kindCode = none :=
      Option.eq_none_iff_forall_ne_some.mpr fun k' hcode => hunknown k' (code_of_ofCode hcode)
    simp [oldestFor, hrx, rowTakes, hnone, hbrief]

/-! ## Rows that wait (R39) -/

theorem exec_row_waits (hwaits : 32 ≤ s.brief.length ∨ s.initPort.rx = []) : exec k.row s = .next s := by
  have hnone : oldestFor k s = none := by
    unfold oldestFor
    split
    · rfl
    · rename_i hrx
      rcases hwaits with hfull | hempty
      · simp [Nat.not_lt.mpr hfull]
      · simp [hempty] at hrx
  rw [exec_row, takePacket, hnone]

/-! ## Packets that pass every check (R40) -/

/-- The flow of a TRANSACT, AWAIT or POST that is open fails none of the checks 1 to 11, but for the take gate. -/
theorem not_checkFails_flow (hold : Oldest k p s) (hflow : FlowOpen k p s) (hkind : k.isFlow = true)
    (htake : k.needsSlot = true → (s.gate (flowEntry s p).takeGate).valid = true) {r : Reason}
    (hbefore : (reasonValue r).toNat ≤ 11) : ¬ CheckFails k p s r := by
  obtain ⟨⟨hsource, henabled⟩, ⟨hdomain, hvalid⟩, hadmits, hrange, ⟨hentry, hentryValid⟩, haccess, hgive⟩ := hflow
  cases r
  case malformed => simp [CheckFails, hold.wellFormed]
  case sourceDisabled => simp [CheckFails, henabled]
  case notManager | busy =>
    rintro ⟨rfl, -⟩
    cases hkind
  case domainInvalid => simp [CheckFails, hvalid]
  case domainClosed =>
    rintro ⟨-, -, hclosed | ⟨hdraining, hother⟩⟩
    · rcases hadmits with hopened | ⟨hdraining, -⟩
      · simp [hopened] at hclosed
      · simp [hdraining] at hclosed
    · rcases hadmits with hopened | ⟨-, hpost⟩
      · simp [hopened] at hdraining
      · exact hother hpost
  case streamRange => simp [CheckFails, hrange]
  case streamInvalid => simp [CheckFails, hentryValid]
  case tableFault => simp [CheckFails, hsource, hdomain, hentry]
  case accessDenied => simp [CheckFails, haccess]
  case gateInvalid =>
    rintro ⟨-, hinvalid | ⟨hneeds, hinvalid⟩⟩
    · simp [hgive] at hinvalid
    · simp [htake hneeds] at hinvalid
  all_goals exact absurd hbefore (by decide)

theorem failedCheck_post (hold : Oldest .post p s) (hflow : FlowOpen .post p s) : failedCheck .post p s = none := by
  refine failedCheck_eq_none fun r => ?_
  by_cases hbefore : (reasonValue r).toNat ≤ 11
  · exact not_checkFails_flow hold hflow rfl nofun hbefore
  · cases r
    case duplicateTag | sourceLimit | noSlot | noBuffer => simp [CheckFails, InKind.needsSlot]
    case notFound | inService | answered => exact id
    all_goals exact absurd (by decide) hbefore

/-- An open flow with a free slot, room under the source's limit and pages passes the checks that need a slot. -/
theorem failedCheck_slot {kind : SlotKind} (hold : Oldest kind.inKind p s) (hflow : FlowOpen kind.inKind p s)
    (hfree : SlotFree p n s) : failedCheck kind.inKind p s = none := by
  obtain ⟨htake, htag, hlimit, ⟨hslot, -⟩, hpages⟩ := hfree
  refine failedCheck_eq_none fun r => ?_
  by_cases hbefore : (reasonValue r).toNat ≤ 11
  · exact not_checkFails_flow hold hflow (by cases kind <;> rfl) (fun _ => htake) hbefore
  · cases r
    case duplicateTag => simp [CheckFails, htag]
    case sourceLimit => simp [CheckFails, hlimit]
    case noSlot => exact fun hfull => hfull.2 n hslot
    case noBuffer =>
      rintro ⟨-, hsome, hover⟩
      rcases hpages with hnone | ⟨hbound, hroom⟩
      · exact hsome hnone
      · omega
    case notFound | inService | answered => exact id
    all_goals exact absurd (by decide) hbefore

/-! ## The slot that the pool gives out (R26) -/

theorem lowestFree_eq_some (hfree : (s.slot n).state = .free)
    (hlowest : ∀ m : SlotNo, m.toNat < n.toNat → (s.slot m).state ≠ .free) : s.lowestFree = some n := by
  have hfind : (List.range Config.numSlots).find? (fun x => decide ((s.slots.get Slot.reset x).state = .free)) =
      some n.toNat := by
    refine List.find?_range_eq_some.mpr ⟨decide_eq_true hfree, List.mem_range.mpr n.isLt, fun x hx => ?_⟩
    have hword : (BitVec.ofNat 10 x).toNat = x := Nat.mod_eq_of_lt (hx.trans n.isLt)
    have hbusy := hlowest (BitVec.ofNat 10 x) (hword.symm ▸ hx)
    rw [State.slot, hword] at hbusy
    simpa using hbusy
  rw [State.lowestFree, State.freeList, List.head?_map, List.head?_filter, hfind]
  simp

/-! ## An admission before its take (R55 parts 1 to 3, R56) -/

/-- The state of an admission that gains slot n, up to the take of the slot. -/
def entered (kind : SlotKind) (p : Packet) (n : SlotNo) (s : State) : State :=
  countAdmitted p (setSeen p (allocate n (filledSlot kind p (flowEntry s p) s.deviceTime)
    (claimTxPages (pagesOf p.payload.length) s)))

theorem giveSlot_eq {kind : SlotKind} (hlowest : s.lowestFree = some n) :
    giveSlot kind p s = take n (entered kind p n s) := by
  unfold giveSlot
  split
  · rename_i hnone
    cases hlowest.symm.trans hnone
  · rename_i m hsome
    cases hlowest.symm.trans hsome
    rfl

/-- A row whose packet gains slot n: the take follows the admission of the packet taken from the buffer. -/
theorem exec_row_takes {kind : SlotKind} (hold : Oldest kind.inKind p s) (hflow : FlowOpen kind.inKind p s)
    (hfree : SlotFree p n s) : exec kind.inKind.row s = .next (take n (entered kind p n (takeFromBuffer .initiator s))) := by
  obtain ⟨later, hrx⟩ := hold.rx
  have htaken := takePacket_of_passed (accept := kind.inKind.rule) (oldestFor_eq_some hrx hold.reserved hold.kind)
    (failedCheck_slot hold hflow hfree)
  have hrule : kind.inKind.rule p (takeFromBuffer .initiator s) = giveSlot kind p (takeFromBuffer .initiator s) := by
    cases kind <;> rfl
  have hlowest : (takeFromBuffer .initiator s).lowestFree = some n :=
    lowestFree_eq_some hfree.lowest.1 hfree.lowest.2
  rw [exec_row, htaken, hrule, giveSlot_eq hlowest]

section Entered

variable {kind : SlotKind}

theorem raiseSlotPoolLow_frame (before : Nat) (s : State) : raiseSlotPoolLow before s =
    { s with conditions := (raiseSlotPoolLow before s).conditions, notices := (raiseSlotPoolLow before s).notices } := by
  unfold raiseSlotPoolLow
  split <;> rfl

@[simp] theorem slot_raiseSlotPoolLow (b : Nat) (s : State) (m : SlotNo) : (raiseSlotPoolLow b s).slot m = s.slot m := by
  rw [raiseSlotPoolLow_frame]; rfl
@[simp] theorem gate_raiseSlotPoolLow (b : Nat) (s : State) (g : GateNo) : (raiseSlotPoolLow b s).gate g = s.gate g := by
  rw [raiseSlotPoolLow_frame]; rfl
@[simp] theorem source_raiseSlotPoolLow (b : Nat) (s : State) (i : SourceNo) :
    (raiseSlotPoolLow b s).source i = s.source i := by
  rw [raiseSlotPoolLow_frame]; rfl
@[simp] theorem stream_raiseSlotPoolLow (b : Nat) (s : State) (i : StreamIndex) :
    (raiseSlotPoolLow b s).stream i = s.stream i := by
  rw [raiseSlotPoolLow_frame]; rfl
@[simp] theorem domain_raiseSlotPoolLow (b : Nat) (s : State) (d : DomainNo) :
    (raiseSlotPoolLow b s).domain d = s.domain d := by
  rw [raiseSlotPoolLow_frame]; rfl
@[simp] theorem tagged_raiseSlotPoolLow (b : Nat) (s : State) (src : SourceNo) (tag : Byte) :
    (raiseSlotPoolLow b s).tagged src tag = s.tagged src tag := by
  rw [raiseSlotPoolLow_frame]; rfl
@[simp] theorem raiseSlotPoolLow_initPort (b : Nat) (s : State) : (raiseSlotPoolLow b s).initPort = s.initPort := by
  rw [raiseSlotPoolLow_frame]
@[simp] theorem raiseSlotPoolLow_freePages (b : Nat) (s : State) : (raiseSlotPoolLow b s).freePages = s.freePages := by
  rw [raiseSlotPoolLow_frame]
@[simp] theorem raiseSlotPoolLow_txPages (b : Nat) (s : State) : (raiseSlotPoolLow b s).txPages = s.txPages := by
  rw [raiseSlotPoolLow_frame]
@[simp] theorem flowIndex_raiseSlotPoolLow (b : Nat) (s : State) (p : Packet) :
    flowIndex (raiseSlotPoolLow b s) p = flowIndex s p := by
  rw [raiseSlotPoolLow_frame]; rfl

theorem entered_slot (m : SlotNo) : (entered kind p n s).slot m =
    if m = n then filledSlot kind p (flowEntry s p) s.deviceTime else s.slot m := by
  simp [entered, countAdmitted, setSeen, allocate, addClaim, enterIndex, State.slot_setSlot]

theorem gate_addClaim (g h : GateNo) (s : State) : (addClaim g s).gate h =
    { s.gate h with references := (s.gate h).references + (if h = g then 1 else 0) } := by
  by_cases hgate : h = g
  · subst hgate
    simp [addClaim]
  · simp [addClaim, State.gate_setGate, hgate]

theorem entered_gate (g : GateNo) : (entered kind p n s).gate g = { s.gate g with
    references := (s.gate g).references + (if g = (flowEntry s p).takeGate then 1 else 0)
      + (if g = (flowEntry s p).giveGate then 1 else 0) } := by
  have hclaims : (entered kind p n s).gate g =
      (addClaim (flowEntry s p).giveGate (addClaim (flowEntry s p).takeGate s)).gate g := by
    simp only [entered, countAdmitted, setSeen, allocate, modifySource_eq, State.gate_setSource, State.gate_setStream,
      gate_raiseSlotPoolLow, gate_addClaim]
    rfl
  rw [hclaims, gate_addClaim, gate_addClaim]

theorem entered_source (i : SourceNo) : (entered kind p n s).source i = { s.source i with
    outstanding := (s.source i).outstanding + (if i = p.source then 1 else 0)
    admitted := (s.source i).admitted + (if i = p.source then 1 else 0) } := by
  by_cases hi : i = p.source <;>
    simp [entered, countAdmitted, setSeen, allocate, addClaim, enterIndex, filledSlot, State.source_setSource, hi]

theorem entered_stream (i : StreamIndex) : (entered kind p n s).stream i =
    { s.stream i with seen := (s.stream i).seen || decide (i = flowIndex s p) } := by
  have hstored : (entered kind p n s).stream i =
      if i = flowIndex s p then { flowEntry s p with seen := true } else s.stream i := by
    simp [entered, countAdmitted, setSeen, allocate, addClaim, enterIndex, filledSlot, State.stream_setStream, flowEntry,
      flowIndex]
    rfl
  rw [hstored]
  by_cases hi : i = flowIndex s p
  · subst hi
    simp [flowEntry]
  · simp [hi]

theorem entered_tagged (src : SourceNo) (tag : Byte) : (entered kind p n s).tagged src tag =
    if src = p.source ∧ tag = p.tag then some n else s.tagged src tag := by
  simp [entered, countAdmitted, setSeen, allocate, addClaim, enterIndex, filledSlot, State.tagged_setTagged]

/-- A state that differs from another in the fields that an admission before its take can change. -/
def Entered (s t : State) : Prop :=
  t = { s with
    slots := t.slots, gates := t.gates, sources := t.sources, streams := t.streams, tagIndex := t.tagIndex
    freePages := t.freePages, txPages := t.txPages, conditions := t.conditions, notices := t.notices }

theorem Entered.trans {u : State} (first : Entered s t) (second : Entered t u) : Entered s u := by
  rw [Entered] at first second ⊢
  generalize t.slots = a, t.gates = b, t.sources = c, t.streams = d, t.tagIndex = e, t.freePages = f, t.txPages = g,
    t.conditions = h, t.notices = i at first
  subst first
  exact second

theorem entered_addClaim (g : GateNo) (s : State) : Entered s (addClaim g s) := rfl

theorem entered_enterIndex (n : SlotNo) (src : SourceNo) (tag : Byte) (s : State) :
    Entered s (enterIndex n src tag s) :=
  rfl

theorem entered_setSlot (n : SlotNo) (x : Slot) (s : State) : Entered s (s.setSlot n x) := rfl

theorem entered_claimTxPages (pages : Nat) (s : State) : Entered s (claimTxPages pages s) := rfl

theorem entered_setSeen (p : Packet) (s : State) : Entered s (setSeen p s) := rfl

theorem entered_countAdmitted (p : Packet) (s : State) : Entered s (countAdmitted p s) := rfl

theorem entered_raiseSlotPoolLow (before : Nat) (s : State) : Entered s (raiseSlotPoolLow before s) := by
  unfold raiseSlotPoolLow
  split <;> rfl

theorem entered_allocate (n : SlotNo) (x : Slot) (s : State) : Entered s (allocate n x s) :=
  (entered_setSlot n x s).trans <| (entered_enterIndex n x.source x.tag _).trans <|
    (entered_addClaim x.takeGate _).trans <| (entered_addClaim x.giveGate _).trans <| entered_raiseSlotPoolLow _ _

/-- The fields that an admission before its take leaves. -/
theorem entered_frame (kind : SlotKind) (p : Packet) (n : SlotNo) (s : State) : Entered s (entered kind p n s) := by
  unfold entered
  exact (entered_claimTxPages _ s).trans <| (entered_allocate n _ _).trans <| (entered_setSeen p _).trans <|
    entered_countAdmitted p _

theorem raise_conditions_of_eq {kind : CondKind} {x : BitVec 32} (hconditions : t.conditions = s.conditions) :
    (raise kind x t).conditions = (raise kind x s).conditions := by
  simp only [raise, State.setCond, State.cond, hconditions]

theorem raise_notices_of_eq {kind : CondKind} {x : BitVec 32} (hconditions : t.conditions = s.conditions)
    (hnotices : t.notices = s.notices) : (raise kind x t).notices = (raise kind x s).notices := by
  simp only [raise, State.cond, hconditions, hnotices]
  rfl

/-- The state between the claims of an admission and its SLOT POOL LOW. -/
def claimed (n : SlotNo) (x : Slot) (s : State) : State :=
  addClaim x.giveGate (addClaim x.takeGate (enterIndex n x.source x.tag (s.setSlot n x)))

theorem allocate_eq (n : SlotNo) (x : Slot) (s : State) :
    allocate n x s = raiseSlotPoolLow s.freeCount (claimed n x s) := by
  unfold claimed
  rfl

theorem claimed_slotLow (n : SlotNo) (x : Slot) (s : State) : (claimed n x s).slotLow = s.slotLow := by
  simp [claimed, addClaim, enterIndex]
theorem claimed_conditions (n : SlotNo) (x : Slot) (s : State) : (claimed n x s).conditions = s.conditions := by
  simp [claimed, addClaim, enterIndex]
theorem claimed_notices (n : SlotNo) (x : Slot) (s : State) : (claimed n x s).notices = s.notices := by
  simp [claimed, addClaim, enterIndex]

theorem entered_conditions : (entered kind p n s).conditions =
    (allocate n (filledSlot kind p (flowEntry s p) s.deviceTime)
      (claimTxPages (pagesOf p.payload.length) s)).conditions := by
  simp [entered, countAdmitted, setSeen]

theorem entered_notices : (entered kind p n s).notices =
    (allocate n (filledSlot kind p (flowEntry s p) s.deviceTime)
      (claimTxPages (pagesOf p.payload.length) s)).notices := by
  simp [entered, countAdmitted, setSeen]

/-- The free count before the allocation decides SLOT POOL LOW (R34). -/
theorem entered_low (hlow : s.freeCount = s.slotLow + 1) :
    (entered kind p n s).conditions = (raise .slotPoolLow (BitVec.ofNat 32 s.slotLow) s).conditions ∧
    (entered kind p n s).notices = (raise .slotPoolLow (BitVec.ofNat 32 s.slotLow) s).notices := by
  have hraised (x : Slot) : allocate n x (claimTxPages (pagesOf p.payload.length) s) =
      raise .slotPoolLow (BitVec.ofNat 32 s.slotLow) (claimed n x (claimTxPages (pagesOf p.payload.length) s)) := by
    rw [allocate_eq, raiseSlotPoolLow, claimed_slotLow]
    exact if_pos hlow
  rw [entered_conditions, entered_notices, hraised]
  exact ⟨raise_conditions_of_eq (claimed_conditions ..), raise_notices_of_eq (claimed_conditions ..) (claimed_notices ..)⟩

theorem entered_notLow (hhigh : s.freeCount ≠ s.slotLow + 1) :
    (entered kind p n s).conditions = s.conditions ∧ (entered kind p n s).notices = s.notices := by
  have hkept (x : Slot) : allocate n x (claimTxPages (pagesOf p.payload.length) s) =
      claimed n x (claimTxPages (pagesOf p.payload.length) s) := by
    rw [allocate_eq, raiseSlotPoolLow, claimed_slotLow]
    exact if_neg hhigh
  rw [entered_conditions, entered_notices, hkept]
  exact ⟨claimed_conditions .., claimed_notices ..⟩

theorem entered_initPort : (entered kind p n s).initPort = s.initPort := by
  simp [entered, countAdmitted, setSeen, allocate_eq, claimed, addClaim, enterIndex, claimTxPages]

theorem entered_freePages : (entered kind p n s).freePages = s.freePages - pagesOf p.payload.length := by
  simp [entered, countAdmitted, setSeen, allocate_eq, claimed, addClaim, enterIndex, claimTxPages]

theorem entered_txPages : (entered kind p n s).txPages = s.txPages + pagesOf p.payload.length := by
  simp [entered, countAdmitted, setSeen, allocate_eq, claimed, addClaim, enterIndex, claimTxPages]

end Entered

/-! ## The take of a slot (R4, R5) -/

section Take

theorem take_granted (hunit : 0 < (s.gate (s.slot n).takeGate).allowance) :
    take n s = grant n (modifyGate (s.slot n).takeGate (fun e => { e with takes := e.takes + 1 }) s) :=
  if_pos hunit

theorem take_held (hnone : (s.gate (s.slot n).takeGate).allowance = 0) :
    take n s = hold n (modifyGate (s.slot n).takeGate (fun e => { e with takes := e.takes + 1 }) s) :=
  if_neg (Nat.not_lt.mpr hnone.le)

theorem grant_frame : grant n s = { s with
    slots := (grant n s).slots, gates := (grant n s).gates, ladder := (grant n s).ladder
    answers := (grant n s).answers, domains := (grant n s).domains } := by
  unfold grant
  simp only
  split <;> rfl

theorem take_frame : take n s = { s with
    slots := (take n s).slots, gates := (take n s).gates, ladder := (take n s).ladder
    answers := (take n s).answers, domains := (take n s).domains } := by
  rcases Nat.eq_zero_or_pos (s.gate (s.slot n).takeGate).allowance with hnone | hunit
  · rw [take_held hnone]
    rfl
  · rw [take_granted hunit, grant_frame]
    rfl

@[simp] theorem take_initPort : (take n s).initPort = s.initPort := by
  rw [take_frame]
@[simp] theorem take_freePages : (take n s).freePages = s.freePages := by
  rw [take_frame]
@[simp] theorem take_txPages : (take n s).txPages = s.txPages := by
  rw [take_frame]
@[simp] theorem take_conditions : (take n s).conditions = s.conditions := by
  rw [take_frame]
@[simp] theorem take_notices : (take n s).notices = s.notices := by
  rw [take_frame]
@[simp] theorem tagged_take (src : SourceNo) (tag : Byte) : (take n s).tagged src tag = s.tagged src tag := by
  rw [take_frame]; rfl
@[simp] theorem source_take (i : SourceNo) : (take n s).source i = s.source i := by
  rw [take_frame]; rfl
@[simp] theorem stream_take (i : StreamIndex) : (take n s).stream i = s.stream i := by
  rw [take_frame]; rfl

theorem grant_transact (hkind : (s.slot n).kind = .transact) : grant n s = raiseActive (s.slot n).domain
    (enterLadder .tail n (modifySlot n (fun y => { y with state := .laddered })
      (modifyGate (s.slot n).takeGate (fun g => { g with allowance := g.allowance - 1 }) s))) := by
  simp only [grant, hkind]

theorem grant_await (hkind : (s.slot n).kind = .await) : grant n s = owe .answering .clear n
    (modifyGate (s.slot n).takeGate (fun g => { g with allowance := g.allowance - 1 }) s) := by
  simp only [grant, hkind]

theorem grant_slot_other (hm : m ≠ n) : (grant n s).slot m = s.slot m := by
  cases hkind : (s.slot n).kind with
  | transact => simp [grant_transact hkind, raiseActive, enterLadder, State.slot_setSlot, hm]
  | await => simp [grant_await hkind, slot_owe, hm]

theorem take_slot_other (hm : m ≠ n) : (take n s).slot m = s.slot m := by
  rcases Nat.eq_zero_or_pos (s.gate (s.slot n).takeGate).allowance with hnone | hunit
  · simp [take_held hnone, hold, raiseActive, State.slot_setSlot, hm]
  · rw [take_granted hunit, grant_slot_other hm, modifyGate_eq, State.slot_setGate]

theorem grant_gate (g : GateNo) : (grant n s).gate g = { s.gate g with
    allowance := if g = (s.slot n).takeGate then (s.gate g).allowance - 1 else (s.gate g).allowance } := by
  have hgate : (grant n s).gate g =
      (modifyGate (s.slot n).takeGate (fun g => { g with allowance := g.allowance - 1 }) s).gate g := by
    cases hkind : (s.slot n).kind with
    | transact => simp [grant_transact hkind, raiseActive, enterLadder]
    | await => simp [grant_await hkind]
  rw [hgate, modifyGate_eq, State.gate_setGate]
  by_cases hg : g = (s.slot n).takeGate
  · subst hg
    simp
  · simp [hg]

/-- The gate record after a granted take (R4). -/
theorem take_gate_granted (hunit : 0 < (s.gate (s.slot n).takeGate).allowance) (g : GateNo) :
    (take n s).gate g = { s.gate g with
      takes := (s.gate g).takes + (if g = (s.slot n).takeGate then 1 else 0)
      allowance := if g = (s.slot n).takeGate then (s.gate g).allowance - 1 else (s.gate g).allowance } := by
  rw [take_granted hunit, grant_gate]
  by_cases hg : g = (s.slot n).takeGate
  · simp [hg]
  · simp [hg, State.gate_setGate]

/-- The gate record after a take that is held (R5). -/
theorem take_gate_held (hnone : (s.gate (s.slot n).takeGate).allowance = 0) (g : GateNo) :
    (take n s).gate g = { s.gate g with
      takes := (s.gate g).takes + (if g = (s.slot n).takeGate then 1 else 0)
      holds := (s.gate g).holds + (if g = (s.slot n).takeGate then 1 else 0)
      holdQueue := if g = (s.slot n).takeGate then insertByPriority s n (s.gate g).holdQueue
        else (s.gate g).holdQueue } := by
  rw [take_held hnone]
  by_cases hg : g = (s.slot n).takeGate
  · subst hg
    simp [hold, raiseActive]
    rfl
  · simp [hold, raiseActive, State.gate_setGate, hg]

theorem raiseActive_domain (d e : DomainNo) (s : State) : (raiseActive d s).domain e =
    { s.domain e with active := (s.domain e).active + (if e = d then 1 else 0) } := by
  by_cases he : e = d
  · subst he
    simp [raiseActive]
  · simp [raiseActive, State.domain_setDomain, he]

end Take

/-! ## The whole admission (R55, R56) -/

/-- The frames of the buffer, of the entry and of the take compose to the frame of an admission. -/
theorem admitted_frame {u v : State} (hbuffer : u = { s with initPort := u.initPort }) (hentered : Entered u v)
    (htake : t = { v with
      slots := t.slots, gates := t.gates, ladder := t.ladder, answers := t.answers, domains := t.domains }) :
    t = { s with
      initPort := t.initPort, freePages := t.freePages, txPages := t.txPages, tagIndex := t.tagIndex
      sources := t.sources, streams := t.streams, conditions := t.conditions, notices := t.notices
      slots := t.slots, gates := t.gates, ladder := t.ladder, answers := t.answers, domains := t.domains } := by
  rw [Entered] at hentered
  generalize t.slots = a, t.gates = b, t.ladder = c, t.answers = d, t.domains = e at htake
  subst htake
  generalize v.slots = a, v.gates = b, v.sources = c, v.streams = d, v.tagIndex = e, v.freePages = f, v.txPages = g,
    v.conditions = h, v.notices = i at hentered
  subst hentered
  generalize u.initPort = a at hbuffer
  subst hbuffer
  rfl

/-- The parts of an admission but for the take, in the state after the take, which leaves them. -/
theorem admitted_take {kind : SlotKind} (p : Packet) (n : SlotNo) (s : State) :
    Admitted p n s (take n (entered kind p n (takeFromBuffer .initiator s))) where
  rx := take_initPort.trans entered_initPort
  free := take_freePages.trans entered_freePages
  use := take_txPages.trans entered_txPages
  tag src tag := (tagged_take src tag).trans (entered_tagged src tag)
  sources i := (source_take i).trans (entered_source i)
  seen i := (stream_take i).trans (entered_stream i)
  low hlow := by
    obtain ⟨hconditions, hnotices⟩ := entered_low (s := takeFromBuffer .initiator s) (kind := kind) (p := p) (n := n) hlow
    rw [take_conditions, take_notices, hconditions, hnotices]
    exact raise_raised s .slotPoolLow _
  notLow hhigh := by
    rw [take_conditions, take_notices]
    exact entered_notLow (s := takeFromBuffer .initiator s) hhigh
  otherSlots m hm := by
    rw [take_slot_other hm, entered_slot, if_neg hm]
    rfl
  frame := admitted_frame rfl (entered_frame kind p n _) take_frame

end Sys2Proof.Machine

/-! Admissions that gain a slot (R4, R5, R55, R56): the state of the slot, the gates, the ladder and the counts after a take
that is granted and after one that is held, and the obligations about packets that are refused or gain a slot. -/

namespace Sys2Proof.Machine

variable {k : InKind} {kind : SlotKind} {p : Packet} {s t : State} {n m : SlotNo} {g : GateNo}

/-! ## The two takes -/

theorem take_transact_slot (hkind : (s.slot n).kind = .transact) (hunit : 0 < (s.gate (s.slot n).takeGate).allowance) :
    (take n s).slot n = { s.slot n with state := .laddered } := by
  rw [take_granted hunit, grant_transact (by simpa using hkind)]
  simp [raiseActive, enterLadder]

theorem take_transact_level (hkind : (s.slot n).kind = .transact) (hunit : 0 < (s.gate (s.slot n).takeGate).allowance)
    (l : Level) : (take n s).level l = if l = (s.slot n).priority then s.level l ++ [n] else s.level l := by
  rw [take_granted hunit, grant_transact (by simpa using hkind)]
  by_cases hl : l = (s.slot n).priority
  · subst hl
    simp [raiseActive, enterLadder]
  · simp [raiseActive, enterLadder, State.level_setLevel, hl]

theorem take_transact_answers (hkind : (s.slot n).kind = .transact)
    (hunit : 0 < (s.gate (s.slot n).takeGate).allowance) : (take n s).answers = s.answers := by
  rw [take_granted hunit, grant_transact (by simpa using hkind)]
  simp [raiseActive, enterLadder]

theorem take_transact_domain (hkind : (s.slot n).kind = .transact)
    (hunit : 0 < (s.gate (s.slot n).takeGate).allowance) (d : DomainNo) : (take n s).domain d =
      { s.domain d with active := (s.domain d).active + (if d = (s.slot n).domain then 1 else 0) } := by
  rw [take_granted hunit, grant_transact (by simpa using hkind), raiseActive_domain]
  simp [enterLadder]
  rfl

theorem take_await_slot (hkind : (s.slot n).kind = .await) (hunit : 0 < (s.gate (s.slot n).takeGate).allowance) :
    (take n s).slot n = { s.slot n with
      state := .answering, answer := some .clear, holdDeadline := none, serviceDeadline := none } := by
  rw [take_granted hunit, grant_await (by simpa using hkind), slot_owe]
  simp

theorem take_await_collections (hkind : (s.slot n).kind = .await)
    (hunit : 0 < (s.gate (s.slot n).takeGate).allowance) :
    (take n s).ladder = s.ladder ∧ (take n s).answers = s.answers ++ [n] ∧ (take n s).domains = s.domains := by
  rw [take_granted hunit, grant_await (by simpa using hkind)]
  simp

theorem take_held_slot (hnone : (s.gate (s.slot n).takeGate).allowance = 0) : (take n s).slot n =
    { s.slot n with state := .held, holdDeadline := startDeadline s (s.gate (s.slot n).takeGate).selector } := by
  rw [take_held hnone]
  simp [hold, raiseActive]
  rfl

theorem take_held_collections (hnone : (s.gate (s.slot n).takeGate).allowance = 0) :
    (take n s).ladder = s.ladder ∧ (take n s).answers = s.answers := by
  rw [take_held hnone]
  exact ⟨rfl, rfl⟩

theorem take_held_domain (hnone : (s.gate (s.slot n).takeGate).allowance = 0) (d : DomainNo) : (take n s).domain d =
    { s.domain d with active := (s.domain d).active + (if d = (s.slot n).domain then 1 else 0) } := by
  rw [take_held hnone, hold, raiseActive_domain]
  simp
  rfl

/-! ## What an entry keeps, as the take reads it -/

theorem Entered.ladder (h : Entered s t) : t.ladder = s.ladder := by
  rw [Entered] at h
  rw [h]
theorem Entered.answers (h : Entered s t) : t.answers = s.answers := by
  rw [Entered] at h
  rw [h]
theorem Entered.domains (h : Entered s t) : t.domains = s.domains := by
  rw [Entered] at h
  rw [h]
theorem Entered.deadlines (h : Entered s t) : t.deadlines = s.deadlines := by
  rw [Entered] at h
  rw [h]
theorem Entered.deviceTime (h : Entered s t) : t.deviceTime = s.deviceTime := by
  rw [Entered] at h
  rw [h]

theorem Entered.level (h : Entered s t) (l : Level) : t.level l = s.level l := by
  simp only [State.level, h.ladder]

theorem Entered.domain (h : Entered s t) (d : DomainNo) : t.domain d = s.domain d := by
  simp only [State.domain, h.domains]

theorem Entered.startDeadline (h : Entered s t) (sel : Selector) :
    startDeadline t sel = Machine.startDeadline s sel := by
  simp only [Machine.startDeadline, State.deadline, h.deadlines, h.deviceTime]
  rfl

/-- The state in which an admission asks its take gate for a unit. -/
def asking (kind : SlotKind) (p : Packet) (n : SlotNo) (s : State) : State :=
  entered kind p n (takeFromBuffer .initiator s)

theorem exec_row_asks (hold : Oldest kind.inKind p s) (hflow : FlowOpen kind.inKind p s) (hfree : SlotFree p n s) :
    exec kind.inKind.row s = .next (take n (asking kind p n s)) :=
  exec_row_takes hold hflow hfree

theorem admitted_asks (kind : SlotKind) (p : Packet) (n : SlotNo) (s : State) :
    Admitted p n s (take n (asking kind p n s)) :=
  admitted_take p n s

theorem asking_slot : (asking kind p n s).slot n = { admittedSlot kind p s with state := .held } := by
  rw [asking, entered_slot, if_pos rfl]
  rfl

theorem asking_slot_other (hm : m ≠ n) : (asking kind p n s).slot m = s.slot m := by
  rw [asking, entered_slot, if_neg hm]
  rfl

theorem asking_gate (g : GateNo) : (asking kind p n s).gate g = { s.gate g with
    references := (s.gate g).references + (if g = (flowEntry s p).takeGate then 1 else 0)
      + (if g = (flowEntry s p).giveGate then 1 else 0) } :=
  entered_gate g

theorem asking_entered (kind : SlotKind) (p : Packet) (n : SlotNo) (s : State) :
    Entered (takeFromBuffer .initiator s) (asking kind p n s) :=
  entered_frame kind p n _

theorem asking_level (l : Level) : (asking kind p n s).level l = s.level l := (asking_entered ..).level l
theorem asking_ladder : (asking kind p n s).ladder = s.ladder := (asking_entered ..).ladder
theorem asking_answers : (asking kind p n s).answers = s.answers := (asking_entered ..).answers
theorem asking_domains : (asking kind p n s).domains = s.domains := (asking_entered ..).domains
theorem asking_domain (d : DomainNo) : (asking kind p n s).domain d = s.domain d := (asking_entered ..).domain d

theorem asking_startDeadline (sel : Selector) : startDeadline (asking kind p n s) sel = startDeadline s sel :=
  (asking_entered ..).startDeadline sel

/-- The gate that the slot of an admission asks is its flow's take gate. -/
theorem asking_takeGate : ((asking kind p n s).slot n).takeGate = (flowEntry s p).takeGate := by
  rw [asking_slot]
  rfl

theorem asking_allowance (g : GateNo) : ((asking kind p n s).gate g).allowance = (s.gate g).allowance := by
  rw [asking_gate]

theorem asking_unit (hunit : 0 < (s.gate (flowEntry s p).takeGate).allowance) :
    0 < ((asking kind p n s).gate ((asking kind p n s).slot n).takeGate).allowance := by
  rwa [asking_takeGate, asking_allowance]

theorem asking_empty (hnone : (s.gate (flowEntry s p).takeGate).allowance = 0) :
    ((asking kind p n s).gate ((asking kind p n s).slot n).takeGate).allowance = 0 := by
  rwa [asking_takeGate, asking_allowance]

/-- The gates after an admission whose take is granted (R4). -/
theorem granted_gate (hunit : 0 < (s.gate (flowEntry s p).takeGate).allowance) (g : GateNo) :
    (take n (asking kind p n s)).gate g =
      (s.gate g).taken (g = (flowEntry s p).takeGate) (g = (flowEntry s p).giveGate)
        (if g = (flowEntry s p).takeGate then (s.gate g).allowance - 1 else (s.gate g).allowance) (s.gate g).holdQueue
        false := by
  rw [take_gate_granted (asking_unit hunit), asking_takeGate, asking_gate]
  simp [Gate.taken]

/-- The gates after an admission whose take is held (R5). -/
theorem held_gate (hnone : (s.gate (flowEntry s p).takeGate).allowance = 0) (g : GateNo) :
    (take n (asking kind p n s)).gate g =
      (s.gate g).taken (g = (flowEntry s p).takeGate) (g = (flowEntry s p).giveGate) (s.gate g).allowance
        (if g = (flowEntry s p).takeGate then insertByPriority (asking kind p n s) n (s.gate g).holdQueue
          else (s.gate g).holdQueue) (g = (flowEntry s p).takeGate) := by
  rw [take_gate_held (asking_empty hnone), asking_takeGate, asking_gate]
  simp [Gate.taken]

/-! ## The place of a held slot in its queue (R3) -/

/-- The waiting slot m stands ahead of slot n, whose level number is not lower. -/
def standsAhead (s : State) (n m : SlotNo) : Bool := (s.slot m).priority.toNat ≤ (s.slot n).priority.toNat

theorem insertByPriority_eq (s : State) (n : SlotNo) (q : List SlotNo) :
    insertByPriority s n q = q.takeWhile (standsAhead s n) ++ n :: q.dropWhile (standsAhead s n) :=
  rfl

theorem standsAhead_of_mem_takeWhile {q : List SlotNo} (hm : m ∈ q.takeWhile (standsAhead s n)) :
    standsAhead s n m = true :=
  List.mem_takeWhile_imp hm

theorem standsAhead_head_dropWhile {q : List SlotNo} (hm : m ∈ (q.dropWhile (standsAhead s n)).head?) :
    standsAhead s n m = false := by
  have hhead := List.head?_dropWhile_not (standsAhead s n) q
  rw [Option.mem_def.mp hm] at hhead
  simpa using hhead

/-- In a queue ordered by level number every slot behind the head of a part has at least the head's level number. -/
theorem head_le_of_ordered {f : SlotNo → Nat} {q : List SlotNo} (hq : q.Pairwise (fun i j => f i ≤ f j))
    {bound : Nat} (hhead : ∀ i ∈ q.head?, bound < f i) : ∀ j ∈ q, bound < f j := by
  cases q with
  | nil => nofun
  | cons i q =>
    intro j hj
    have hi : bound < f i := hhead i rfl
    rcases List.mem_cons.mp hj with rfl | hj
    · exact hi
    · exact hi.trans_le (List.rel_of_pairwise_cons hq hj)

/-! ## The fill bits and the fields of a kind (R41) -/

theorem initiatorFillZero_iff : p.initiatorFillZero = true ↔
    p.b0.extractLsb' 0 2 = 0 ∧ p.b1.extractLsb' 6 2 = 0 ∧ p.b3.extractLsb' 2 6 = 0 := by
  simp [Packet.initiatorFillZero, and_assoc]

theorem fitsKind_iff : fitsKind k p = true ↔
    match k with
    | .transact => p.lengthField ≤ 512 ∧ p.b7 = 0
    | .await => p.lengthField = 0 ∧ p.b7 = 0
    | .post => p.lengthField = 0 ∧ 1 ≤ p.b7.toNat ∧ p.b7.toNat ≤ 16
    | .withdraw => p.lengthField = 0 ∧ p.domain = 0 ∧ p.stream = 0 ∧ p.b2 = 0
    | .manage => 1 ≤ p.lengthField ∧ p.lengthField ≤ 512 ∧ p.domain = 0 ∧ p.stream = 0 ∧ p.b7 = 0 := by
  cases k <;> simp only [fitsKind, Bool.and_eq_true, decide_eq_true_eq, and_assoc] <;> rfl

end Sys2Proof.Machine

namespace Sys2Proof.Proofs

open Sys2Proof.Machine

/-- Settles O12: an unknown kind is malformed, and a known kind is well formed exactly when its own fields fit. -/
theorem malformedByKind : Obligations.MalformedByKind := by
  refine ⟨fun p => malformed_of_unknown_kind, fun k p hkind => ?_⟩
  rw [malformed_eq_false_iff hkind, initiatorFillZero_iff, fitsKind_iff]
  cases k <;> simp only [and_assoc]

/-- Settles O13: the row takes the packet, its first failed check gives the reason, and the refusal follows the take. -/
theorem firstFailedCheckRefuses : Obligations.FirstFailedCheckRefuses := by
  intro k p later r s hrx hbrief hcode hfails hbefore
  have hold := oldestFor_eq_some_of_code hrx hbrief hcode
  exact ⟨takeFromBuffer .initiator s, _,
    exec_row.trans (congrArg Host.Outcome.next (takePacket_of_failed hold (failedCheck_eq_some hfails hbefore))),
    takeFromBuffer_took s .initiator, refuse_refused p r _⟩

/-- Settles O14: the admission enters the slot and its take is granted, so the slot joins the ladder. -/
theorem transactGrantedAtOnce : Obligations.TransactGrantedAtOnce := by
  intro p n s hold hflow hfree hunit
  have hkind : ((asking .transact p n s).slot n).kind = .transact := by rw [asking_slot]; rfl
  have htake := asking_unit (kind := .transact) (n := n) hunit
  refine ⟨_, exec_row_asks (kind := .transact) hold hflow hfree, admitted_asks .transact p n s, ?_, granted_gate hunit,
    fun l => ?_, ?_, fun d => ?_⟩
  · rw [take_transact_slot hkind htake, asking_slot]
  · rw [take_transact_level hkind htake, asking_slot, asking_level]
    rfl
  · rw [take_transact_answers hkind htake, asking_answers]
  · rw [take_transact_domain hkind htake, asking_slot, asking_domain]
    rfl

/-- Settles O15: the admission enters the slot and its take is granted, so the slot owes CLEAR. -/
theorem awaitGrantedAtOnce : Obligations.AwaitGrantedAtOnce := by
  intro p n s hold hflow hfree hunit
  have hkind : ((asking .await p n s).slot n).kind = .await := by rw [asking_slot]; rfl
  have htake := asking_unit (kind := .await) (n := n) hunit
  obtain ⟨hladder, hanswers, hdomains⟩ := take_await_collections hkind htake
  refine ⟨_, exec_row_asks (kind := .await) hold hflow hfree, admitted_asks .await p n s, ?_, granted_gate hunit,
    hladder.trans asking_ladder, ?_, hdomains.trans asking_domains⟩
  · rw [take_await_slot hkind htake, asking_slot]
    rfl
  · rw [hanswers, asking_answers]

/-- Settles O16: the admission enters the slot and its take finds no unit, so the slot joins the hold queue by its priority. -/
theorem takeWithoutUnitIsHeld : Obligations.TakeWithoutUnitIsHeld := by
  intro kind p n s hold hflow hfree hnone
  have htake := asking_empty (kind := kind) (n := n) hnone
  obtain ⟨hladder, hanswers⟩ := take_held_collections htake
  have hahead (m : SlotNo) (hm : m ≠ n) : standsAhead (asking kind p n s) n m =
      decide ((s.slot m).priority.toNat ≤ (flowEntry s p).priority.toNat) := by
    rw [standsAhead, asking_slot, asking_slot_other hm]
    rfl
  generalize hq : (s.gate (flowEntry s p).takeGate).holdQueue = q
  refine ⟨_, q.takeWhile (standsAhead (asking kind p n s) n), q.dropWhile (standsAhead (asking kind p n s) n),
    exec_row_asks hold hflow hfree, admitted_asks kind p n s, List.takeWhile_append_dropWhile.symm, fun hnew => ?_, ?_,
    fun g => ?_, hladder.trans asking_ladder, hanswers.trans asking_answers, fun d => ?_⟩
  · rw [List.takeWhile_append_dropWhile] at hnew
    have hother (m : SlotNo) (hm : m ∈ q) : m ≠ n := fun heq => hnew (heq ▸ hm)
    have hhead : ∀ m ∈ (q.dropWhile (standsAhead (asking kind p n s) n)).head?,
        (flowEntry s p).priority.toNat < (s.slot m).priority.toNat := by
      intro m hm
      have hmem := (List.dropWhile_sublist _).subset (List.mem_of_mem_head? hm)
      have hnot := standsAhead_head_dropWhile hm
      rw [hahead m (hother m hmem)] at hnot
      simpa using hnot
    refine ⟨fun m hm => ?_, hhead, fun hordered => head_le_of_ordered ?_ hhead⟩
    · have hmem := (List.takeWhile_sublist _).subset hm
      have hstands := standsAhead_of_mem_takeWhile hm
      rw [hahead m (hother m hmem)] at hstands
      simpa using hstands
    · have hpairs := hordered (flowEntry s p).takeGate
      rw [hq] at hpairs
      exact hpairs.sublist (List.dropWhile_sublist _)
  · rw [take_held_slot htake, asking_takeGate, asking_startDeadline, asking_slot, asking_gate]
    rfl
  · rw [held_gate hnone, insertByPriority_eq]
    by_cases hg : g = (flowEntry s p).takeGate
    · subst hg
      simp [hq]
    · simp [hg]
  · rw [take_held_domain htake, asking_slot, asking_domain]
    rfl

end Sys2Proof.Proofs

/-! Gives and releases (R6, R7, R12, R57): what a release leaves of the gates, the room that a gate has for gives, and the
obligations about POST, WITHDRAW, SET ALLOWANCE, the READ of a gate and the units that wait. -/

namespace Sys2Proof.Machine

variable {p : Packet} {s t : State} {n m : SlotNo} {g h : GateNo} {b : Batch} {value : List Byte}

/-! ## What a release leaves of the gates and of the domains' windows -/

@[simp] theorem gate_leaveActive (r : FallReport) (d : DomainNo) (g : GateNo) : (leaveActive r d s).gate g = s.gate g := by
  cases r with
  | atOnce =>
    simp only [leaveActive, completeDrain]
    split <;> simp [lowerActive]
  | deferred => simp [leaveActive, lowerActive]

theorem lowerActive_base (d e : DomainNo) : ((lowerActive d s).domain e).base = (s.domain e).base := by
  by_cases he : e = d
  · subst he
    simp [lowerActive]
  · simp [lowerActive, State.domain_setDomain, he]

theorem completeDrain_base (d e : DomainNo) : ((completeDrain d s).domain e).base = (s.domain e).base := by
  unfold completeDrain
  split
  · by_cases he : e = d
    · subst he
      simp
    · simp [State.domain_setDomain, he]
  · rfl

theorem leaveActive_base (r : FallReport) (d e : DomainNo) :
    ((leaveActive r d s).domain e).base = (s.domain e).base := by
  cases r with
  | atOnce => exact (completeDrain_base d e).trans (lowerActive_base d e)
  | deferred => exact lowerActive_base d e

theorem release_base (r : FallReport) (g : GateNo) (e : DomainNo) :
    ((release r g s).domain e).base = (s.domain e).base := by
  unfold release
  split
  · rfl
  · simp only
    split
    · cases (s.gate g).placement <;> simp [enterLadder]
    · simp [leaveActive_base]

/-- A release takes the head off its own gate's hold queue and leaves the rest of the gates (R7). -/
theorem gate_release (r : FallReport) (g h : GateNo) : (release r g s).gate h =
    if h = g then { s.gate g with holdQueue := (s.gate g).holdQueue.tail } else s.gate h := by
  unfold release
  split
  · rename_i hempty
    split
    · rename_i hg
      rw [hg, hempty, List.tail_nil, ← hempty]
    · rfl
  · rename_i n q hqueue
    rw [hqueue]
    simp only
    split
    · cases hplace : (s.gate g).placement <;> simp [enterLadder, State.gate_setGate, hplace]
    · simp [State.gate_setGate]

/-! ## The room of a gate for gives (R6, R57) -/

/-- The gives to gate g that are not surplus: one for each waiting slot, and one for each unit below the ceiling. -/
def giveRoom (g : GateNo) (s : State) : Nat :=
  (s.gate g).holdQueue.length + ((s.gate g).ceiling - (s.gate g).allowance)

theorem wouldBeSurplus_iff : wouldBeSurplus g s = true ↔ giveRoom g s = 0 := by
  simp only [wouldBeSurplus, giveRoom, Bool.and_eq_true, List.isEmpty_iff, Bool.not_eq_true', decide_eq_false_iff_not,
    Nat.add_eq_zero_iff, List.length_eq_zero_iff, Nat.not_lt, Nat.sub_eq_zero_iff_le]

theorem give_base (c : GiveCause) (r : FallReport) (g : GateNo) (e : DomainNo) :
    ((give c r g s).domain e).base = (s.domain e).base := by
  unfold give
  simp only
  split
  · simp [release_base]
  split
  · simp
  · cases c <;> simp [surplusGive]

/-- A give uses up one of the room's places, if there is one. -/
theorem giveRoom_give (c : GiveCause) (r : FallReport) (g : GateNo) : giveRoom g (give c r g s) = giveRoom g s - 1 := by
  unfold give
  simp only
  split
  · rename_i hwaiting
    have hlength := List.length_pos_iff.mpr hwaiting
    simp only [giveRoom, gate_release, if_true, modifyGate_eq, State.gate_setGate_same, List.length_tail]
    omega
  · rename_i hempty
    have hqueue : (s.gate g).holdQueue = [] := not_not.mp hempty
    split
    · rename_i hbelow
      simp only [giveRoom, modifyGate_eq, State.gate_setGate_same, hqueue]
      omega
    · rename_i hfull
      have hroom : giveRoom g s = 0 := by
        rw [giveRoom, hqueue, List.length_nil]
        omega
      rw [hroom]
      have hover := Nat.sub_eq_zero_of_le (Nat.not_lt.mp hfull)
      cases c <;> simp [giveRoom, surplusGive, hqueue, hover]

theorem postSurplus_eq (g : GateNo) (count : Nat) (s : State) : postSurplus g count s = count - giveRoom g s := by
  induction count generalizing s with
  | zero => simp [postSurplus]
  | succ count ih =>
    rw [postSurplus, ih, giveRoom_give]
    split
    · rename_i hsurplus
      rw [wouldBeSurplus_iff.mp hsurplus]
      omega
    · rename_i hroom
      have hpositive := mt wouldBeSurplus_iff.mpr hroom
      omega

theorem postGives_base (g : GateNo) (count : Nat) (e : DomainNo) :
    ((postGives g count s).domain e).base = (s.domain e).base := by
  induction count generalizing s with
  | zero => rfl
  | succ count ih => exact ih.trans (give_base .post .atOnce g e)

theorem flowIndex_postGives (g : GateNo) (count : Nat) (s : State) (p : Packet) :
    flowIndex (postGives g count s) p = flowIndex s p := by
  simp only [flowIndex, postGives_base]

/-! ## POST (R57) -/

theorem exec_post_of_open (hold : Oldest .post p s) (hflow : FlowOpen .post p s) :
    exec .post s = .next (rulePost p (takeFromBuffer .initiator s)) := by
  obtain ⟨later, hrx⟩ := hold.rx
  exact exec_row.trans (congrArg _ (takePacket_of_passed (oldestFor_eq_some hrx hold.reserved hold.kind)
    (failedCheck_post hold hflow)))

theorem stream_setSeen (p : Packet) (s : State) (i : StreamIndex) : (setSeen p s).stream i =
    { s.stream i with seen := (s.stream i).seen || decide (i = flowIndex s p) } := by
  by_cases hi : i = flowIndex s p
  · subst hi
    simp [setSeen, flowEntry]
  · simp [setSeen, State.stream_setStream, hi]

/-- The state after the gives of a POST (R57). -/
def posted (p : Packet) (s : State) : State := postGives (flowEntry s p).giveGate p.b7.toNat s

theorem posted_gave (p : Packet) (s : State) : GaveTimes (flowEntry s p).giveGate p.b7.toNat s (posted p s) :=
  postGives_gave s _ _

theorem rulePost_brief (p : Packet) (s : State) : (rulePost p s).brief = s.brief ++
    [briefFor p p.tag (.ack (p.b7.toNat - (p.b7.toNat - giveRoom (flowEntry s p).giveGate s))
      (p.b7.toNat - giveRoom (flowEntry s p).giveGate s))] := by
  have hbrief : (posted p s).brief = s.brief := (Adjusted.refl.postGives _ _).sameQueues.brief
  rw [← hbrief, ← postSurplus_eq]
  rfl

theorem rulePost_source (p : Packet) (s : State) (i : SourceNo) : (rulePost p s).source i = { (posted p s).source i with
    admitted := ((posted p s).source i).admitted + (if i = p.source then 1 else 0) } :=
  (countAdmitted_counts p (setSeen p (posted p s))).sources i

theorem rulePost_stream (p : Packet) (s : State) (i : StreamIndex) : (rulePost p s).stream i = { (posted p s).stream i with
    seen := ((posted p s).stream i).seen || decide (i = flowIndex s p) } := by
  rw [← flowIndex_postGives (flowEntry s p).giveGate p.b7.toNat s p]
  exact stream_setSeen p (posted p s) i

theorem rulePost_frame (p : Packet) (s : State) : rulePost p s = { posted p s with
    sources := (rulePost p s).sources, streams := (rulePost p s).streams, brief := (rulePost p s).brief } :=
  rfl

/-! ## WITHDRAW of a waiting slot (R58) -/

theorem closeLaddered_parts (code : CloseCode) (rep : FallReport) (n : SlotNo) (s : State) :
    ∃ a b c, LeftLevel n s a ∧ Owes .answering (.close code) n a b ∧ PagesFreed n b c ∧
      Fell rep (s.slot n).domain c (closeLaddered code rep n s) :=
  ⟨_, _, _, leaveLadder_left s n, owe_owes _ _ _ _, releasePages_freed _ n, leaveActive_fell_by _ _ _⟩

theorem ruleWithdraw_of_held (htag : s.tagged p.source p.b7 = some n) (hstate : (s.slot n).state = .held) :
    ruleWithdraw p s = countAdmitted p (closeHeld .withdrawn .atOnce n s) := by
  simp only [ruleWithdraw, Packet.specific, htag, hstate]

theorem ruleWithdraw_of_laddered (htag : s.tagged p.source p.b7 = some n) (hstate : (s.slot n).state = .laddered) :
    ruleWithdraw p s =
      countAdmitted p (give .noSender .atOnce (s.slot n).takeGate (closeLaddered .withdrawn .atOnce n s)) := by
  simp only [ruleWithdraw, Packet.specific, htag, hstate]

/-! ## Units that wait (R66, R77, R125) -/

theorem takeComplete_waiting (hwell : IsComplete p) (hserving : (s.slot p.trackingTag).state = .serving)
    (hpages : s.freePages < pagesOf p.payload.length) : takeComplete p s = s := by
  simp only [takeComplete, wellFormedComplete_iff.mpr hwell, hserving, Nat.not_le.mpr hpages, if_true, if_false]

theorem preference_eq_none (hnotices : s.notices = []) (hreports : s.reports = []) (hbrief : s.brief = [])
    (hanswers : s.answers = []) : preference s = none := by
  simp only [preference, answerChoice, hnotices, hreports, hbrief, hanswers]

theorem outboundChoice_eq_none (hwaits : s.initPort.link ≠ .up ∨ s.initPort.credit = 0 ∨
    (s.notices = [] ∧ s.reports = [] ∧ s.brief = [] ∧ s.answers = [])) : outboundChoice s = none := by
  rcases hwaits with hdown | hspent | ⟨hnotices, hreports, hbrief, hanswers⟩
  · exact if_neg fun ⟨hup, _⟩ => hdown hup
  · exact if_neg fun ⟨_, hcredit⟩ => by omega
  · have hnothing : ¬ (s.runCount = Config.maxRun ∧ s.answers ≠ []) := fun ⟨_, hsome⟩ => hsome hanswers
    rw [outboundChoice, if_neg hnothing, preference_eq_none hnotices hreports hbrief hanswers, ite_self]

theorem exec_outbound_of_none (hchoice : outboundChoice s = none) : exec .outboundSending s = .next s := by
  show execOutboundSending s = _
  rw [execOutboundSending, hchoice]

/-! ## SET ALLOWANCE (R12) -/

theorem releaseMany_released (count : Nat) (hcount : count ≤ (s.gate g).holdQueue.length) :
    ReleasedTimes g count s (releaseMany g count s) := by
  induction count generalizing s with
  | zero => rfl
  | succ count ih =>
    obtain ⟨m, q, hqueue⟩ := List.exists_cons_of_length_pos (Nat.lt_of_lt_of_le (Nat.succ_pos count) hcount)
    have hafter : ((release .atOnce g (modifyGate g (fun e => { e with gives := e.gives + 1 }) s)).gate g).holdQueue = q := by
      simp [gate_release, hqueue]
    refine ⟨m, q, _, hqueue, release_released s .atOnce g m q hqueue, ih ?_⟩
    rw [hafter]
    rw [hqueue, List.length_cons] at hcount
    omega

/-- The keyed record of a kind addressed to gate g (R133). -/
def gateRecord (kind : RecordKind) (g : GateNo) (value : List Byte) : Record :=
  { table := 4, index := g.toNat, kind := kind, value := value }

theorem exec_setAllowance_of_ruling {x : Ruling} (hat : AtRecord s b 4 g.toNat 3 value)
    (hx : ruleSetAllowance (gateRecord .setAllowance g value) s = x) :
    exec .setAllowance s = .next (x.state.withHead (b.afterRecord 4 g.toNat value x.status x.data)) :=
  congrArg Host.Outcome.next (takeRecord_of_ruling hat rfl (owner_of_index g.isLt) hx)

theorem exec_gateRead_of_ruling {x : Ruling} (hat : AtRecord s b 4 g.toNat 1 value)
    (hx : ruleGateRead (gateRecord .read g value) s = x) :
    exec .gateRead s = .next (x.state.withHead (b.afterRecord 4 g.toNat value x.status x.data)) :=
  congrArg Host.Outcome.next (takeRecord_of_ruling hat rfl (owner_of_index g.isLt) hx)

theorem ruleSetAllowance_twoBytes {v : Nat} (hv : v < 65536) :
    ruleSetAllowance (gateRecord .setAllowance g (twoBytes v)) s =
      if (s.gate g).ceiling < v then ruledRefused s .badValue
      else if (s.gate g).valid = false then ruledRefused s .wrongState else ruledDone (setAllowance g v s) := by
  simp only [ruleSetAllowance, gateRecord, twoBytes, readTwo_twoBytes hv, BitVec.ofNat_toNat, BitVec.setWidth_eq]

theorem ruleSetAllowance_badValue (hlength : value.length ≠ 2) :
    ruleSetAllowance (gateRecord .setAllowance g value) s = ruledRefused s .badValue := by
  match value, hlength with
  | [_, _], hlength => exact absurd rfl hlength
  | [], _ | [_], _ | _ :: _ :: _ :: _, _ => rfl

/-! ## The READ of a gate (R16) -/

theorem readView_of_nil_or_zero {views : Nat} (hviews : 0 < views) (hview : value = [] ∨ value = [0]) :
    readView views value = some 0 := by
  rcases hview with rfl | rfl
  · rfl
  · exact if_pos hviews

theorem readView_three_eq_none (hnil : value ≠ []) (hzero : value ≠ [0]) (hone : value ≠ [1]) (htwo : value ≠ [2]) :
    readView 3 value = none := by
  refine Option.eq_none_iff_forall_ne_some.mpr fun view hread => ?_
  rcases (readView_iff (by decide) (by decide)).mp hread with ⟨hvalue, -⟩ | ⟨hbound, hvalue⟩
  · exact hnil hvalue
  · match view, hbound with
    | 0, _ => exact hzero hvalue
    | 1, _ => exact hone hvalue
    | 2, _ => exact htwo hvalue

theorem ruleGateRead_badValue (hview : readView 3 value = none) :
    ruleGateRead (gateRecord .read g value) s = ruledRefused s .badValue := by
  simp only [ruleGateRead, gateRecord, hview]

theorem ruleGateRead_of_view {v : Nat} (hview : readView 3 value = some v) :
    ruleGateRead (gateRecord .read g value) s =
      if v = 0 then
        ruledRead s ([yesNo (s.gate g).valid] ++ twoBytes (s.gate g).ceiling ++ twoBytes (s.gate g).allowance
          ++ [placementCode (s.gate g).placement, byteOf (s.gate g).selector.toNat]
          ++ twoBytes (s.gate g).holdCount ++ twoBytes (s.gate g).references)
      else if v = 1 then
        ruledRead s (fourBytes (s.gate g).takes ++ fourBytes (s.gate g).gives ++ fourBytes (s.gate g).holds
          ++ fourBytes (s.gate g).expiries)
      else ruledRead s (fourBytes (s.gate g).surplus ++ headBytes s (s.gate g)) := by
  simp only [ruleGateRead, gateRecord, hview, BitVec.ofNat_toNat, BitVec.setWidth_eq]

theorem headBytes_of_empty {x : Gate} (hqueue : x.holdQueue = []) : headBytes s x = [0, 0, 0, 0] := by
  simp only [headBytes, hqueue]

theorem headBytes_of_waiting {x : Gate} {q : List SlotNo} (hqueue : x.holdQueue = n :: q) :
    headBytes s x = [1] ++ twoBytes n.toNat ++ [byteOf (s.slot n).priority.toNat] := by
  simp only [headBytes, hqueue]

end Sys2Proof.Machine

namespace Sys2Proof.Proofs

open Sys2Proof.Machine

/-- Settles O17: the gives follow the take from the buffer; the ones past the gate's room are surplus. -/
theorem postGivesUnits : Obligations.PostGivesUnits := by
  intro p s hold hflow
  refine ⟨takeFromBuffer .initiator s, posted p _, _, exec_post_of_open hold hflow, takeFromBuffer_took s .initiator,
    posted_gave p (takeFromBuffer .initiator s), ?_, rulePost_source p _, rulePost_stream p _, rulePost_frame p _⟩
  rintro surplus rfl
  exact rulePost_brief p _

/-- Settles O18: a WITHDRAW that passes its checks closes the slot it finds, and a LADDERED slot's unit is given back. -/
theorem withdrawClosesWaitingSlot : Obligations.WithdrawClosesWaitingSlot := by
  intro p n s hold hcode henabled htag
  have hexec := exec_withdraw_of_passed hold hcode henabled
  refine ⟨fun hheld => ?held, fun hladdered => ?laddered⟩
  case held =>
    obtain ⟨a, b, c, hleft, howes, hfreed, hfell⟩ := closeHeld_parts .withdrawn .atOnce n (takeFromBuffer .initiator s)
    exact ⟨_, a, b, c, _, _, hexec.trans (congrArg _ (ruleWithdraw_of_held htag hheld)), takeFromBuffer_took s .initiator,
      hleft, howes, hfreed, hfell, countAdmitted_counts p _⟩
  case laddered =>
    obtain ⟨a, b, c, hleft, howes, hfreed, hfell⟩ :=
      closeLaddered_parts .withdrawn .atOnce n (takeFromBuffer .initiator s)
    exact ⟨_, a, b, c, _, _, _, hexec.trans (congrArg _ (ruleWithdraw_of_laddered htag hladdered)),
      takeFromBuffer_took s .initiator, hleft, howes, hfreed, hfell, give_gave _ .noSender .atOnce _,
      countAdmitted_counts p _⟩

/-- Settles O21: each unit that waits leaves the state. -/
theorem blockedUnitsWait : Obligations.BlockedUnitsWait := by
  refine ⟨fun k s => exec_row_waits, fun s hfails => ?forward, fun p later s hrx hwell hserving hpages => ?complete,
    fun s hwaits => exec_outbound_of_none (outboundChoice_eq_none hwaits)⟩
  case forward =>
    refine exec_forward_of_none (forwardChoice_eq_none (hfails.imp_left fun hpaused => ?_))
    rw [hpaused]
    decide
  case complete =>
    exact (exec_complete_of_oldest hrx).trans (congrArg _ (takeComplete_waiting hwell hserving hpages))

/-- Settles O40: the value names the view, and the last view shows the head of the hold queue where there is one. -/
theorem gateReadReturnsViews : Obligations.GateReadReturnsViews := by
  intro b g value s hat
  refine ⟨fun hview => ?_, fun hview => ?_, fun hview hqueue => ?_, fun n q hview hqueue => ?_,
    fun hnil hzero hone htwo => ?_⟩
  · exact exec_gateRead_of_ruling hat (ruleGateRead_of_view (readView_of_nil_or_zero (by decide) hview))
  · subst hview
    exact exec_gateRead_of_ruling hat (ruleGateRead_of_view (v := 1) rfl)
  · subst hview
    rw [← headBytes_of_empty (s := s) hqueue]
    exact exec_gateRead_of_ruling hat (ruleGateRead_of_view (v := 2) rfl)
  · subst hview
    rw [List.append_assoc, List.append_assoc, ← List.append_assoc [1], ← headBytes_of_waiting (s := s) hqueue]
    exact exec_gateRead_of_ruling hat (ruleGateRead_of_view (v := 2) rfl)
  · exact exec_gateRead_of_ruling hat (ruleGateRead_badValue (readView_three_eq_none hnil hzero hone htwo))

/-- Settles O41: a two-byte value is ruled by the ceiling and the valid flag; the releases go before the allowance. -/
theorem setAllowanceReleasesFirst : Obligations.SetAllowanceReleasesFirst := by
  intro b g value s hat
  refine ⟨fun v hv hvalue => ?twoBytes,
    fun hlength => exec_setAllowance_of_ruling hat (ruleSetAllowance_badValue hlength)⟩
  case twoBytes =>
    subst hvalue
    have hruling := ruleSetAllowance_twoBytes (g := g) (s := s) hv
    refine ⟨fun hover => ?_, fun hunder hinvalid => ?_, fun hunder hvalid => ?_⟩
    · exact exec_setAllowance_of_ruling hat (hruling.trans (if_pos hover))
    · rw [if_neg (Nat.not_lt.mpr hunder), if_pos hinvalid] at hruling
      exact exec_setAllowance_of_ruling hat hruling
    · rw [if_neg (Nat.not_lt.mpr hunder), if_neg (by simp [hvalid])] at hruling
      exact ⟨_, releaseMany_released _ (Nat.min_le_right _ _), exec_setAllowance_of_ruling hat hruling⟩

end Sys2Proof.Proofs

/-! The arbiter and the engine (R121, R125, R132 to R139): what is sent next and what the sending leaves, the owner of a key,
the walk behind a record that a batch stops at, and the obligations that state them. -/

namespace Sys2Proof.Machine

variable {s t : State} {n : SlotNo} {b : Batch} {waiting : List Batch} {table index : Nat}
  {kind : RecordKind} {value : List Byte}

/-! ## What the arbiter sends next (R125) -/

section Sending

variable {c : Sending}

theorem exec_outbound_of_some (hchoice : outboundChoice s = some c) :
    exec .outboundSending s = .next (sendChosen c s) := by
  show execOutboundSending s = _
  rw [execOutboundSending, hchoice]

/-- While slot answers are not preferred the order of R125 decides. -/
theorem outboundChoice_of_preference (hup : s.initPort.link = .up) (hcredit : 1 ≤ s.initPort.credit)
    (hnotRun : ¬ (s.runCount = 8 ∧ s.answers ≠ [])) (hfirst : preference s = some c) : outboundChoice s = some c := by
  rw [outboundChoice, if_pos ⟨hup, hcredit⟩]
  exact (if_neg hnotRun).trans hfirst

theorem preference_notice {k : CondKind} {ks : List CondKind} (hnotices : s.notices = k :: ks) :
    preference s = some (.notice k) := by
  simp only [preference, hnotices]

theorem preference_report {r : Report} {rs : List Report} (hnotices : s.notices = []) (hreports : s.reports = r :: rs) :
    preference s = some (.report r) := by
  simp only [preference, hnotices, hreports]

theorem preference_brief {x : BriefAnswer} {xs : List BriefAnswer} (hnotices : s.notices = []) (hreports : s.reports = [])
    (hbrief : s.brief = x :: xs) : preference s = some (.brief x) := by
  simp only [preference, hnotices, hreports, hbrief]

theorem preference_answer {rest : List SlotNo} (hnotices : s.notices = []) (hreports : s.reports = [])
    (hbrief : s.brief = []) (hanswers : s.answers = n :: rest) : preference s = some (.answer n) := by
  simp only [preference, answerChoice, hnotices, hreports, hbrief, hanswers]

/-- The head of the answer list is sent after a run of 8 other packets, and when nothing else waits. -/
theorem outboundChoice_answer {rest : List SlotNo} (hup : s.initPort.link = .up) (hcredit : 1 ≤ s.initPort.credit)
    (hanswers : s.answers = n :: rest) (hturn : s.runCount = 8 ∨ (s.notices = [] ∧ s.reports = [] ∧ s.brief = [])) :
    outboundChoice s = some (.answer n) := by
  by_cases hrun : s.runCount = 8
  · have hchosen : s.runCount = Config.maxRun ∧ s.answers ≠ [] := ⟨hrun, by simp [hanswers]⟩
    rw [outboundChoice, if_pos ⟨hup, hcredit⟩, if_pos hchosen, answerChoice, hanswers]
  · obtain ⟨hnotices, hreports, hbrief⟩ := hturn.resolve_left hrun
    exact outboundChoice_of_preference hup hcredit (fun hboth => hrun hboth.1)
      (preference_answer hnotices hreports hbrief hanswers)

theorem finishSlot_lapsed (hstate : (s.slot n).state = .lapsing) (hexpected : (s.slot n).completionExpected = true) :
    Lapsed n s (finishSlot n s) := by
  rw [finishSlot, if_pos ⟨hstate, hexpected⟩]
  exact lapseSlot_lapsed s n hstate

theorem finishSlot_freed (hends : (s.slot n).state ≠ .lapsing ∨ (s.slot n).completionExpected = false) :
    Freed n s (finishSlot n s) := by
  have hfree : ¬ ((s.slot n).state = .lapsing ∧ (s.slot n).completionExpected = true) := by
    rintro ⟨hlapsing, hexpected⟩
    rcases hends with hother | hnone
    · exact hother hlapsing
    · simp [hnone] at hexpected
  rw [finishSlot, if_neg hfree]
  exact freeSlot_freed s n

theorem sendAnswer_of_some {a : Answer} (hanswer : (s.slot n).answer = some a) : sendAnswer n s =
    { finishSlot n (transmit .initiator (answerPacket (s.slot n) a) s) with runCount := 0 } := by
  simp only [sendAnswer, hanswer]

end Sending

/-! ## The batch that the engine applies -/

theorem currentAction_of_applying (happlying : s.engine = .applying) (hhead : s.batches = b :: waiting) :
    currentAction s = some (b, b.nextAction) := by
  simp only [currentAction, happlying, hhead]

theorem nextAction_of_endMarker (hfound : findRecord b.position (b.bytes.drop b.offset) = .endMarker) :
    b.nextAction = .endMarker := by
  simp only [Batch.nextAction, Batch.rest, hfound]

theorem nextAction_of_missingEnd (hfound : findRecord b.position (b.bytes.drop b.offset) = .missingEnd) :
    b.nextAction = .missingEnd := by
  simp only [Batch.nextAction, Batch.rest, hfound]

theorem nextAction_of_malformed (hfound : findRecord b.position (b.bytes.drop b.offset) = .malformed) :
    b.nextAction = .malformed := by
  simp only [Batch.nextAction, Batch.rest, hfound]

theorem nextAction_of_outOfOrder {r : Record} (hfound : findRecord b.position (b.bytes.drop b.offset) = .keyed r)
    (horder : outOfOrder b r = true) : b.nextAction = .outOfOrder r := by
  simp only [Batch.nextAction, Batch.rest, hfound, horder, if_true]

theorem exec_endMarker_of_endMarker (haction : currentAction s = some (b, .endMarker)) : exec .endMarker s =
    .next (finishBatch { b with entries := b.entries ++ [{ status := .done, data := [] }] } s) := by
  show execEndMarker s = _
  simp only [execEndMarker, haction]

theorem exec_endMarker_of_missingEnd (haction : currentAction s = some (b, .missingEnd)) :
    exec .endMarker s = .next (stopMissingEnd b s) := by
  show execEndMarker s = _
  simp only [execEndMarker, haction]

theorem exec_endMarker_of_malformed (haction : currentAction s = some (b, .malformed)) :
    exec .endMarker s = .next (stopMalformed b s) := by
  show execEndMarker s = _
  simp only [execEndMarker, haction]

theorem exec_badKey_of_missingEnd (haction : currentAction s = some (b, .missingEnd)) :
    exec .badKey s = .next (stopMissingEnd b s) := by
  show execBadKey s = _
  simp only [execBadKey, haction]

theorem exec_badKey_of_malformed (haction : currentAction s = some (b, .malformed)) :
    exec .badKey s = .next (stopMalformed b s) := by
  show execBadKey s = _
  simp only [execBadKey, haction]

theorem exec_badKey_of_outOfOrder {r : Record} (haction : currentAction s = some (b, .outOfOrder r)) :
    exec .badKey s = .next (finishBatch (b.stopAt .outOfOrder (b.walkBehind r)) s) := by
  show execBadKey s = _
  simp only [execBadKey, haction]

theorem finishBatch_done (b : Batch) (s : State) :
    finishBatch { b with entries := b.entries ++ [{ status := .done, data := [] }] } s =
      s.finished b b.applied .done 0 := by
  simp [finishBatch, Batch.report, State.finished]

/-- A batch that stops at a position walks the later ones (R138). -/
theorem finishBatch_stopAt {st : Status} {later : List ReportEntry} {more : Nat}
    (hlater : later = List.replicate more { status := .notApplied, data := [] }) (b : Batch) (s : State) :
    finishBatch (b.stopAt st later) s = s.finished b b.applied st more := by
  subst hlater
  rfl

/-! ## The walk behind a stop (R138) -/

theorem lt_of_findRecord_keyed {position : Nat} {bytes : List Byte} {r : Record}
    (hfound : findRecord position bytes = .keyed r) : position < 32 := by
  by_contra hlast
  cases bytes with
  | nil => cases hfound
  | cons first later =>
    by_cases hend : first = 0xFF
    · rw [findRecord, if_pos hend] at hfound
      cases hfound
    · rw [findRecord, if_neg hend, if_pos (show Config.lastPosition ≤ position from Nat.le_of_not_lt hlast)] at hfound
      cases hfound

/-- A bound that reaches position 32 does not cut the walk short. -/
theorem walk_walks (bound position : Nat) (bytes : List Byte) (hreach : 32 ≤ position + bound) :
    ∃ more, Walks position bytes more ∧
      walk (bound + 1) position bytes = List.replicate more { status := .notApplied, data := [] } := by
  induction bound generalizing position bytes with
  | zero =>
    cases hfound : findRecord position bytes with
    | missingEnd => exact ⟨0, .ends _ _ (.inl hfound), by simp only [walk, hfound, List.replicate_zero]⟩
    | malformed => exact ⟨0, .ends _ _ (.inr hfound), by simp only [walk, hfound, List.replicate_zero]⟩
    | endMarker => exact ⟨1, .atEnd _ _ hfound, by simp only [walk, hfound, List.replicate_one]⟩
    | keyed r => exact absurd (lt_of_findRecord_keyed hfound) (Nat.not_lt.mpr hreach)
  | succ bound ih =>
    cases hfound : findRecord position bytes with
    | missingEnd => exact ⟨0, .ends _ _ (.inl hfound), by rw [walk, hfound]; rfl⟩
    | malformed => exact ⟨0, .ends _ _ (.inr hfound), by rw [walk, hfound]; rfl⟩
    | endMarker => exact ⟨1, .atEnd _ _ hfound, by rw [walk, hfound]; rfl⟩
    | keyed r =>
      obtain ⟨more, hwalks, hlater⟩ := ih (position + 1) (bytes.drop r.size) (by omega)
      refine ⟨more + 1, .past _ _ r more hfound hwalks, ?_⟩
      rw [walk, hfound, List.replicate_succ, ← hlater]

theorem length_recordBytes (code : Byte) : (recordBytes table index code value).length = 5 + value.length := by
  simp [recordBytes, twoBytes]
  omega

theorem drop_behind_recordBytes {code : Byte} {later : List Byte}
    (hbytes : b.bytes.drop b.offset = recordBytes table index code value ++ later) :
    b.bytes.drop (b.offset + (5 + value.length)) = later := by
  rw [← List.drop_drop, hbytes, ← length_recordBytes (table := table) (index := index) code, List.drop_left]

/-! ## The owner of a key (R133, R136) -/

theorem tableSize_of_large (htable : 8 < table) : tableSize table = 0 := by
  match table, htable with
  | more + 9, _ => rfl

/-- The tables' keys and kinds are those of the first table of R133. -/
theorem keyTakes_eq (table index : Nat) (kind : RecordKind) : keyTakes table index kind.code =
    (decide (index < tableSize table) && (tableTakes table kind).isSome) := by
  match table with
  | 0 | 1 | 2 | 3 | 4 | 5 | 6 | 7 | 8 =>
    cases kind <;> simp [keyTakes, tableSize, tableTakes, RecordKind.code, Config.numSources, Config.numDomains,
      Config.numStreams, Config.numGates, Config.numDeadlines, Config.numConditions, Config.numSlots]
  | more + 9 => rw [tableSize_of_large (by omega)]; rfl

theorem owner_eq_none_of_keyTakes (huntaken : keyTakes table index kind.code = false) :
    Record.owner { table := table, index := index, kind := kind, value := value } = none := by
  rw [keyTakes_eq] at huntaken
  by_cases hindex : index < tableSize table
  · rw [owner_of_index hindex]
    simpa [hindex] using huntaken
  · exact if_neg hindex

theorem RecordKind.code_of_ofCode {code : Byte} (hkind : RecordKind.ofCode code = some kind) : kind.code = code := by
  revert code
  cases kind <;> decide

theorem RecordKind.exists_of_code {code : Byte} (hlow : 1 ≤ code.toNat) (hhigh : code.toNat ≤ 9) :
    ∃ kind, RecordKind.ofCode code = some kind ∧ kind.code = code := by
  cases hcode : RecordKind.ofCode code with
  | none =>
    rcases RecordKind.ofCode_eq_none_iff.mp hcode with rfl | hlarge
    · exact absurd hlow (by decide)
    · omega
  | some kind => exact ⟨kind, rfl, RecordKind.code_of_ofCode hcode⟩

end Sys2Proof.Machine

namespace Sys2Proof.Proofs

open Sys2Proof.Machine

/-- Settles O27: the preference decides, and the packet sent is composed from the state before the sending. -/
theorem outboundSendsByPreference : Obligations.OutboundSendsByPreference := by
  intro s hup hcredit hnotRun
  refine ⟨fun k ks hnotices => ?notice, fun r rs hnotices hreports => ?report,
    fun x xs hnotices hreports hbrief => ?brief⟩
  case notice =>
    have hchoice := outboundChoice_of_preference hup hcredit hnotRun (preference_notice hnotices)
    refine ⟨_, transmit_transmitted s .initiator (noticePacket s k), (exec_outbound_of_some hchoice).trans ?_⟩
    rw [sendChosen, hnotices]
    rfl
  case report =>
    have hchoice := outboundChoice_of_preference hup hcredit hnotRun (preference_report hnotices hreports)
    refine ⟨_, transmit_transmitted s .initiator (reportPacket r), (exec_outbound_of_some hchoice).trans ?_⟩
    rw [sendChosen, hreports]
    rfl
  case brief =>
    have hchoice := outboundChoice_of_preference hup hcredit hnotRun (preference_brief hnotices hreports hbrief)
    refine ⟨_, transmit_transmitted s .initiator (briefPacket x), (exec_outbound_of_some hchoice).trans ?_⟩
    rw [sendChosen, hbrief]
    rfl

/-- Settles O28: the head of the answer list is sent, and the slot ends LAPSED or FREE. -/
theorem slotAnswerFinishesSlot : Obligations.SlotAnswerFinishesSlot := by
  intro n rest a s hup hcredit hanswers hanswer hturn
  have hslot : (transmit .initiator (answerPacket (s.slot n) a) s).slot n = s.slot n := rfl
  refine ⟨transmit .initiator (answerPacket (s.slot n) a) s, finishSlot n _,
    (exec_outbound_of_some (outboundChoice_answer hup hcredit hanswers hturn)).trans ?_, ?_,
    fun hlapsing hexpected => finishSlot_lapsed ?_ ?_, fun hends => finishSlot_freed ?_⟩
  · exact congrArg Host.Outcome.next (sendAnswer_of_some hanswer)
  · cases a <;> exact transmit_transmitted s .initiator _
  · rwa [hslot]
  · rwa [hslot]
  · rwa [hslot]

/-- Settles O29: BATCH_BEGIN is decided by the engine, the batch queue and the room for a REPORT. -/
theorem batchBegins : Obligations.BatchBegins := by
  refine ⟨fun b waiting s hidle hhead hroom => ?begins, fun s hwaits => ?waits⟩
  case begins =>
    show execBatchBegin s = _
    simp only [execBatchBegin, hidle, hhead]
    rw [if_pos (show s.reports.length < Config.reportCapacity from hroom), setHeadBatch, hhead]
    rfl
  case waits =>
    show execBatchBegin s = _
    unfold execBatchBegin
    split
    · rename_i b waiting hidle hhead
      have hfull : ¬ s.reports.length < Config.reportCapacity := by
        rcases hwaits with happlying | hempty | hfull
        · simp [hidle] at happlying
        · simp [hhead] at hempty
        · exact Nat.not_lt.mpr hfull
      rw [if_neg hfull]
    · rfl

/-- Settles O31: what stands at the position finishes the batch, in either row that takes it. -/
theorem endAndUnparsablePositions : Obligations.EndAndUnparsablePositions := by
  intro b waiting s happlying hhead
  have haction := currentAction_of_applying happlying hhead
  refine ⟨fun hfound => ?_, fun hfound => ?_, fun hfound => ?_⟩
  · rw [nextAction_of_endMarker hfound] at haction
    exact (exec_endMarker_of_endMarker haction).trans (congrArg _ (finishBatch_done b s))
  · rw [nextAction_of_missingEnd hfound] at haction
    have hstop : stopMissingEnd b s = s.finished b b.applied .missingEnd 0 := finishBatch_stopAt (later := []) (more := 0) rfl b s
    exact ⟨(exec_endMarker_of_missingEnd haction).trans (congrArg _ hstop),
      (exec_badKey_of_missingEnd haction).trans (congrArg _ hstop)⟩
  · rw [nextAction_of_malformed hfound] at haction
    have hstop : stopMalformed b s = s.finished b b.applied .malformed 0 := finishBatch_stopAt (later := []) (more := 0) rfl b s
    exact ⟨(exec_endMarker_of_malformed haction).trans (congrArg _ hstop),
      (exec_badKey_of_malformed haction).trans (congrArg _ hstop)⟩

/-- Settles O32: a key that no table takes has no owner, and a record below the last key stops its batch. -/
theorem badKeyAndOutOfOrder : Obligations.BadKeyAndOutOfOrder := by
  refine ⟨fun b table index code value s hat hlow hhigh huntaken => ?badKey,
    fun b table index code value later waiting k s happlying hhead hposition htable hindex hvalue hlow hhigh hbytes hlast
      hbelow => ?outOfOrder⟩
  case badKey =>
    obtain ⟨kind, hkind, hcode⟩ := RecordKind.exists_of_code hlow hhigh
    exact exec_badKey_of_unowned hat hkind (owner_eq_none_of_keyTakes (hcode.symm ▸ huntaken))
  case outOfOrder =>
    obtain ⟨kind, hkind, -⟩ := RecordKind.exists_of_code hlow hhigh
    have hfound := (congrArg _ hbytes).trans (findRecord_recordBytes later htable hindex hposition hvalue hkind)
    have horder : outOfOrder b { table := table, index := index, kind := kind, value := value } = true := by
      simp only [outOfOrder, hlast, keyBelow]
      simpa using hbelow
    have haction := currentAction_of_applying happlying hhead
    rw [nextAction_of_outOfOrder hfound horder] at haction
    obtain ⟨more, hwalks, hlater⟩ := walk_walks 31 (b.position + 1) later (by omega)
    refine ⟨more, hwalks, (exec_badKey_of_outOfOrder haction).trans (congrArg _ (finishBatch_stopAt ?_ b s))⟩
    rw [Batch.walkBehind]
    exact (congrArg (walk 32 (b.position + 1)) (drop_behind_recordBytes hbytes)).trans hlater

end Sys2Proof.Proofs

/-! The records of the source, stream, condition, device and slot tables (R35, R72, R146, R148, R157, R158, R163 to R165):
each rule's ruling in every outcome, and the obligations that state them. -/

namespace Sys2Proof.Machine

variable {s : State} {b : Batch} {value : List Byte}

/-- A record row in which the engine stands at a record of the row's own rule leaves what the rule makes of it. -/
theorem exec_record {i : Instr} {op : RecordOp} {rule : Record → State → Ruling} {table index : Nat} {code : Byte}
    {kind : RecordKind} {x : Ruling} (hrow : ∀ s, exec i s = .next (takeRecord op rule s))
    (hat : AtRecord s b table index code value) (hkind : RecordKind.ofCode code = some kind)
    (howner : Record.owner { table := table, index := index, kind := kind, value := value } = some op)
    (hx : rule { table := table, index := index, kind := kind, value := value } s = x) :
    exec i s = .next (x.state.withHead (b.afterRecord table index value x.status x.data)) :=
  (hrow s).trans (congrArg Host.Outcome.next (takeRecord_of_ruling hat hkind howner hx))

/-! ## The WRITE of a source (R146) -/

section SourceWrite

variable {i : SourceNo} {c : SourceContents}

/-- The keyed record of a WRITE addressed to source i (R133). -/
def sourceWriteRecord (i : SourceNo) (value : List Byte) : Record :=
  { table := 1, index := i.toNat, kind := .write, value := value }

theorem exec_sourceWrite_of_ruling {x : Ruling} (hat : AtRecord s b 1 i.toNat 2 value)
    (hx : ruleSourceWrite (sourceWriteRecord i value) s = x) :
    exec .sourceWrite s = .next (x.state.withHead (b.afterRecord 1 i.toNat value x.status x.data)) :=
  exec_record (fun _ => rfl) hat rfl (owner_of_index i.isLt) hx

theorem goodManager_iff {e : SourceEntry} : e.goodManager = true ↔ e.codeMatches = true ∧ e.state = .manager := by
  simp [SourceEntry.goodManager]

theorem otherManager_iff : otherManager s i = true ↔
    ∃ j, j ≠ i ∧ (s.source j).codeMatches = true ∧ (s.source j).state = .manager := by
  have hothers := any_range_two_pow_iff (w := 6) (f := fun j =>
    j != i.toNat && (s.sources.get SourceEntry.reset j).goodManager)
  simp only [Bool.and_eq_true, bne_iff_ne, ne_eq, BitVec.toNat_inj, goodManager_iff] at hothers
  exact hothers

theorem otherManager_eq_false_iff : otherManager s i = false ↔
    ∀ j, j ≠ i → (s.source j).codeMatches = false ∨ (s.source j).state ≠ .manager := by
  simp only [← Bool.not_eq_true, otherManager_iff, not_exists, not_and, ne_eq, imp_iff_not_or]

/-- A source entry after a WRITE of its contents. -/
def writtenSource (i : SourceNo) (c : SourceContents) (s : State) : State :=
  s.setSource i { s.source i with toSourceContents := c, codeMatches := true }

/-- The checks of a WRITE whose value is read, in their order. -/
theorem ruleSourceWrite_of_value (hread : readSourceValue value = some c) :
    ruleSourceWrite (sourceWriteRecord i value) s =
      if (s.source i).state = .manager ∧ c.state ≠ .manager ∧ otherManager s i = false then ruledRefused s .lastManager
      else if c.state ≠ .manager ∧ i = s.noticeTarget then ruledRefused s .isTarget
      else ruledDone (raise .privilegeChange (BitVec.ofNat 32 i.toNat) (writtenSource i c s)) := by
  simp only [ruleSourceWrite, sourceWriteRecord, hread, BitVec.ofNat_toNat, BitVec.setWidth_eq, modifySource_eq,
    writtenSource, numberDetail]

theorem ruleSourceWrite_badValue (hread : readSourceValue value = none) :
    ruleSourceWrite (sourceWriteRecord i value) s = ruledRefused s .badValue := by
  simp only [ruleSourceWrite, sourceWriteRecord, hread]

theorem readSourceValue_eq_none_iff : readSourceValue value = none ↔
    ∀ c : SourceContents, c.limit ≤ 1024 → value ≠ sourceValue c := by
  simp only [Option.eq_none_iff_forall_ne_some, ne_eq, readSourceValue_iff, not_and]

end SourceWrite

/-! ## Stream entries (R148) -/

section Streams

variable {i : StreamIndex} {c : StreamContents}

/-- The keyed record of a kind addressed to stream entry i (R133). -/
def streamRecord (kind : RecordKind) (i : StreamIndex) (value : List Byte) : Record :=
  { table := 3, index := i.toNat, kind := kind, value := value }

theorem exec_streamWrite_of_ruling {x : Ruling} (hat : AtRecord s b 3 i.toNat 2 value)
    (hx : ruleStreamWrite (streamRecord .write i value) s = x) :
    exec .streamWrite s = .next (x.state.withHead (b.afterRecord 3 i.toNat value x.status x.data)) :=
  exec_record (fun _ => rfl) hat rfl (owner_of_index i.isLt) hx

theorem exec_streamRead_of_ruling {x : Ruling} (hat : AtRecord s b 3 i.toNat 1 value)
    (hx : ruleStreamRead (streamRecord .read i value) s = x) :
    exec .streamRead s = .next (x.state.withHead (b.afterRecord 3 i.toNat value x.status x.data)) :=
  exec_record (fun _ => rfl) hat rfl (owner_of_index i.isLt) hx

theorem ruleStreamWrite_of_value (hread : readStreamValue value = some c) :
    ruleStreamWrite (streamRecord .write i value) s =
      ruledDone (s.setStream i { toStreamContents := c, seen := false, codeMatches := true }) := by
  simp only [ruleStreamWrite, streamRecord, hread, BitVec.ofNat_toNat, BitVec.setWidth_eq]

theorem ruleStreamWrite_badValue (hread : readStreamValue value = none) :
    ruleStreamWrite (streamRecord .write i value) s = ruledRefused s .badValue := by
  simp only [ruleStreamWrite, streamRecord, hread]

theorem readStreamValue_eq_none_iff : readStreamValue value = none ↔ ∀ c : StreamContents, value ≠ streamValue c := by
  simp only [Option.eq_none_iff_forall_ne_some, ne_eq, readStreamValue_iff]

theorem ruleStreamRead_nil : ruleStreamRead (streamRecord .read i []) s =
    if (s.stream i).codeMatches = false then ruledRefused s .faulted
    else ruledRead s (streamValue (s.stream i).toStreamContents ++ [yesNo (s.stream i).seen]) := by
  simp only [ruleStreamRead, streamRecord, ne_eq, not_true_eq_false, if_false, BitVec.ofNat_toNat, BitVec.setWidth_eq]
  rfl

theorem ruleStreamRead_badValue (hvalue : value ≠ []) :
    ruleStreamRead (streamRecord .read i value) s = ruledRefused s .badValue :=
  if_pos hvalue

end Streams

/-! ## Conditions (R163 to R165) -/

section Conditions

variable {k : CondKind}

/-- The keyed record of a kind addressed to the entry of condition kind k (R133). -/
def conditionRecord (kind : RecordKind) (k : CondKind) (value : List Byte) : Record :=
  { table := 6, index := k.number, kind := kind, value := value }

theorem CondKind.ofNumber_number (k : CondKind) : CondKind.ofNumber k.number = k := by
  cases k <;> rfl

theorem exec_conditionWrite_of_ruling {x : Ruling} (hat : AtRecord s b 6 k.number 2 value)
    (hx : ruleConditionWrite (conditionRecord .write k value) s = x) :
    exec .conditionWrite s = .next (x.state.withHead (b.afterRecord 6 k.number value x.status x.data)) :=
  exec_record (fun _ => rfl) hat rfl (owner_of_index k.number_lt) hx

theorem exec_acknowledge_of_ruling {x : Ruling} (hat : AtRecord s b 6 k.number 7 value)
    (hx : ruleAcknowledge (conditionRecord .acknowledge k value) s = x) :
    exec .acknowledge s = .next (x.state.withHead (b.afterRecord 6 k.number value x.status x.data)) :=
  exec_record (fun _ => rfl) hat rfl (owner_of_index k.number_lt) hx

theorem exec_conditionRead_of_ruling {x : Ruling} (hat : AtRecord s b 6 k.number 1 value)
    (hx : ruleConditionRead (conditionRecord .read k value) s = x) :
    exec .conditionRead s = .next (x.state.withHead (b.afterRecord 6 k.number value x.status x.data)) :=
  exec_record (fun _ => rfl) hat rfl (owner_of_index k.number_lt) hx

theorem ruleConditionWrite_of_value {masked : Bool} (hread : readMaskValue value = some masked) :
    ruleConditionWrite (conditionRecord .write k value) s = ruledDone (storeMask k masked s) := by
  simp only [ruleConditionWrite, conditionRecord, hread, CondKind.ofNumber_number]

theorem ruleConditionWrite_badValue (hread : readMaskValue value = none) :
    ruleConditionWrite (conditionRecord .write k value) s = ruledRefused s .badValue := by
  simp only [ruleConditionWrite, conditionRecord, hread]

theorem readMaskValue_eq_none (hzero : value ≠ [0]) (hone : value ≠ [1]) : readMaskValue value = none := by
  refine Option.eq_none_iff_forall_ne_some.mpr fun masked hread => ?_
  cases masked with
  | false => exact hzero (readMaskValue_iff.mp hread)
  | true => exact hone (readMaskValue_iff.mp hread)

/-- Unmasking a set flag with no NOTICE pending queues one (R163). -/
theorem storeMask_eq (k : CondKind) (masked : Bool) (s : State) : storeMask k masked s =
    { s.setCond k { s.cond k with masked := masked } with
      notices :=
        if (s.cond k).masked = true ∧ masked = false ∧ (s.cond k).flag = true ∧ k ∉ s.notices then s.notices ++ [k]
        else s.notices } := by
  simp only [storeMask, Bool.and_eq_true, Bool.not_eq_true', and_assoc, List.contains_eq_mem, decide_eq_false_iff_not]

theorem ruleAcknowledge_nil : ruleAcknowledge (conditionRecord .acknowledge k []) s = ruledDone (clearCond k s) := by
  simp only [ruleAcknowledge, conditionRecord, ne_eq, not_true_eq_false, if_false, CondKind.ofNumber_number]

theorem ruleAcknowledge_badValue (hvalue : value ≠ []) :
    ruleAcknowledge (conditionRecord .acknowledge k value) s = ruledRefused s .badValue :=
  if_pos hvalue

/-- What a READ of a condition leaves: it clears the entry in clear mode ON READ (R165). -/
def afterConditionRead (k : CondKind) (s : State) : State :=
  match s.clearMode with
  | .onAcknowledge => s
  | .onRead => clearCond k s

theorem afterConditionRead_onAcknowledge (hmode : s.clearMode = .onAcknowledge) : afterConditionRead k s = s := by
  simp only [afterConditionRead, hmode]

theorem afterConditionRead_onRead (hmode : s.clearMode = .onRead) : afterConditionRead k s = clearCond k s := by
  simp only [afterConditionRead, hmode]

theorem ruleConditionRead_nil : ruleConditionRead (conditionRecord .read k []) s =
    ruledRead (afterConditionRead k s) (condBytes (s.cond k)) := by
  cases hmode : s.clearMode <;>
    simp only [ruleConditionRead, conditionRecord, ne_eq, not_true_eq_false, if_false, CondKind.ofNumber_number,
      afterConditionRead, hmode]

theorem ruleConditionRead_badValue (hvalue : value ≠ []) :
    ruleConditionRead (conditionRecord .read k value) s = ruledRefused s .badValue :=
  if_pos hvalue

end Conditions

/-! ## Device settings (R72, R157, R158) -/

section Device

variable {reserve threshold : Nat} {target : SourceNo} {mode : ClearMode} {v : Nat}

/-- The keyed record of a kind addressed to the device settings (R133). -/
def deviceRecord (kind : RecordKind) (value : List Byte) : Record :=
  { table := 7, index := 0, kind := kind, value := value }

theorem exec_deviceWrite_of_ruling {x : Ruling} (hat : AtRecord s b 7 0 2 value)
    (hx : ruleDeviceWrite (deviceRecord .write value) s = x) :
    exec .deviceWrite s = .next (x.state.withHead (b.afterRecord 7 0 value x.status x.data)) :=
  exec_record (fun _ => rfl) hat rfl rfl hx

theorem exec_deviceRead_of_ruling {x : Ruling} (hat : AtRecord s b 7 0 1 value)
    (hx : ruleDeviceRead (deviceRecord .read value) s = x) :
    exec .deviceRead s = .next (x.state.withHead (b.afterRecord 7 0 value x.status x.data)) :=
  exec_record (fun _ => rfl) hat rfl rfl hx

theorem exec_dispatch_of_ruling {x : Ruling} (hat : AtRecord s b 7 0 8 value)
    (hx : ruleDispatch (deviceRecord .dispatch value) s = x) :
    exec .dispatch s = .next (x.state.withHead (b.afterRecord 7 0 value x.status x.data)) :=
  exec_record (fun _ => rfl) hat rfl rfl hx

/-- The checks of a WRITE whose value is read, in their order. -/
theorem ruleDeviceWrite_of_value (hread : readDeviceValue value = some (reserve, threshold, target, mode)) :
    ruleDeviceWrite (deviceRecord .write value) s =
      if (s.source target).goodManager = false then ruledRefused s .badValue
      else if 4096 - reserve < s.txPages then ruledRefused s .reserveConflict
      else ruledDone { s with reserve := reserve, slotLow := threshold, noticeTarget := target, clearMode := mode } := by
  simp only [ruleDeviceWrite, deviceRecord, hread, Config.numPages]

theorem ruleDeviceWrite_badValue (hread : readDeviceValue value = none) :
    ruleDeviceWrite (deviceRecord .write value) s = ruledRefused s .badValue := by
  simp only [ruleDeviceWrite, deviceRecord, hread]

theorem readDeviceValue_eq_none_iff : readDeviceValue value = none ↔
    ∀ (reserve threshold : Nat) (target : SourceNo) (mode : ClearMode), reserve ≤ 2048 → threshold ≤ 1023 →
      value ≠ deviceValue reserve threshold target mode := by
  simp only [Option.eq_none_iff_forall_ne_some, Prod.forall, ne_eq, readDeviceValue_iff, not_and]

theorem ruleDeviceRead_of_view (hview : readView 3 value = some v) : ruleDeviceRead (deviceRecord .read value) s =
    if v = 0 then
      ruledRead s (twoBytes s.reserve ++ twoBytes s.slotLow
        ++ [byteOf s.noticeTarget.toNat, clearModeCode s.clearMode, dispatchCode s.dispatch] ++ fourBytes s.deviceTime)
    else if v = 1 then
      ruledRead s (twoBytes s.freeCount ++ twoBytes s.freePages ++ twoBytes s.txPages ++ twoBytes s.compPages)
    else
      ruledRead s [s.initPort.link.code, s.initPort.session, s.svcPort.link.code, s.svcPort.session,
        byteOf s.svcPort.credit, byteOf s.svcPort.creditLimit] := by
  simp only [ruleDeviceRead, deviceRecord, hview]

theorem ruleDeviceRead_badValue (hview : readView 3 value = none) :
    ruleDeviceRead (deviceRecord .read value) s = ruledRefused s .badValue := by
  simp only [ruleDeviceRead, deviceRecord, hview]

/-- The free list is the FREE slots among all slots. -/
theorem filter_everySlot (s : State) : everySlot.filter (fun n => (s.slot n).state = .free) = s.freeList := by
  rw [everySlot, List.filter_map, State.freeList]
  refine congrArg (List.map _) (List.filter_congr fun n hn => ?_)
  have hword : (BitVec.ofNat 10 n).toNat = n := Nat.mod_eq_of_lt (List.mem_range.mp hn)
  simp only [Function.comp_apply, State.slot, hword]

theorem ruleDispatch_of_value {d : DispatchState} (hread : readDispatchValue value = some d) :
    ruleDispatch (deviceRecord .dispatch value) s = ruledDone { s with dispatch := d } := by
  simp only [ruleDispatch, deviceRecord, hread]

theorem ruleDispatch_badValue (hread : readDispatchValue value = none) :
    ruleDispatch (deviceRecord .dispatch value) s = ruledRefused s .badValue := by
  simp only [ruleDispatch, deviceRecord, hread]

theorem readDispatchValue_eq_none (hzero : value ≠ [0]) (hone : value ≠ [1]) : readDispatchValue value = none := by
  match value with
  | [] | _ :: _ :: _ => rfl
  | [m] =>
    have hpaused : m ≠ 0 := fun h => hzero (congrArg (fun m => [m]) h)
    have hrun : m ≠ 1 := fun h => hone (congrArg (fun m => [m]) h)
    rw [readDispatchValue, readDispatch, if_neg hpaused, if_neg hrun]

end Device

/-! ## Slots (R35) -/

section Slots

variable {n : SlotNo} {v : Nat}

/-- The keyed record of a kind addressed to slot n (R133). -/
def slotRecord (kind : RecordKind) (n : SlotNo) (value : List Byte) : Record :=
  { table := 8, index := n.toNat, kind := kind, value := value }

theorem exec_slotRead_of_ruling {x : Ruling} (hat : AtRecord s b 8 n.toNat 1 value)
    (hx : ruleSlotRead (slotRecord .read n value) s = x) :
    exec .slotRead s = .next (x.state.withHead (b.afterRecord 8 n.toNat value x.status x.data)) :=
  exec_record (fun _ => rfl) hat rfl (owner_of_index n.isLt) hx

theorem exec_slotWrite_refused (hat : AtRecord s b 8 n.toNat 2 value) :
    exec .slotWrite s = .next (s.withHead (b.afterRecord 8 n.toNat value .wrongState [])) :=
  exec_record (rule := ruleSlotWrite) (x := ruledRefused s .wrongState) (fun _ => rfl) hat rfl (owner_of_index n.isLt) rfl

theorem ruleSlotRead_of_view (hview : readView 2 value = some v) : ruleSlotRead (slotRecord .read n value) s =
    if (s.slot n).state = .free then ruledRead s (List.replicate (if v = 0 then 12 else 16) 0)
    else ruledRead s (if v = 0 then slotViewZero (s.slot n) else slotViewOne (s.slot n)) := by
  simp only [ruleSlotRead, slotRecord, hview, BitVec.ofNat_toNat, BitVec.setWidth_eq]

theorem ruleSlotRead_badValue (hview : readView 2 value = none) :
    ruleSlotRead (slotRecord .read n value) s = ruledRefused s .badValue := by
  simp only [ruleSlotRead, slotRecord, hview]

theorem runningDeadline_eq (x : Slot) : runningDeadline x = x.holdDeadline.or x.serviceDeadline := by
  cases hdeadline : x.holdDeadline <;> simp [runningDeadline, hdeadline]

theorem slotFlags_eq (x : Slot) : slotFlags x =
    byteOf ((if x.giveOnCompletion then 1 else 0) + (if x.completionExpected then 2 else 0)) := by
  cases hgive : x.giveOnCompletion <;> cases hexpected : x.completionExpected <;>
    simp [slotFlags, hgive, hexpected, byteOf]

end Slots

end Sys2Proof.Machine

namespace Sys2Proof.Proofs

open Sys2Proof.Machine

/-- Settles O33: a value that is read is ruled by the two privilege checks, and a write that passes them raises PRIVILEGE CHANGE. -/
theorem sourceWriteChecksAndStores : Obligations.SourceWriteChecksAndStores := by
  intro b i value s hat
  refine ⟨fun c hlimit hvalue hkeeps htarget => ?stored, fun c hlimit hvalue hwas hends halone => ?lastManager,
    fun c hlimit hvalue hends htarget hkeeps => ?isTarget, fun hbad => ?badValue⟩
  case badValue =>
    exact exec_sourceWrite_of_ruling hat (ruleSourceWrite_badValue (readSourceValue_eq_none_iff.mpr hbad))
  all_goals have hruling := ruleSourceWrite_of_value (s := s) (i := i) (readSourceValue_iff.mpr ⟨hlimit, hvalue⟩)
  case stored =>
    have hmanaged : ¬ ((s.source i).state = .manager ∧ c.state ≠ .manager ∧ otherManager s i = false) := by
      rintro ⟨hwas, hends, halone⟩
      rcases hkeeps with hother | hstays | hmanager
      · exact hother hwas
      · exact hends hstays
      · simp [otherManager_iff.mpr hmanager] at halone
    have hnotTarget : ¬ (c.state ≠ .manager ∧ i = s.noticeTarget) := by
      rintro ⟨hends, heq⟩
      exact htarget.elim hends (fun hne => hne heq)
    rw [if_neg hmanaged, if_neg hnotTarget] at hruling
    exact ⟨_, exec_sourceWrite_of_ruling hat hruling, raise_raised (writtenSource i c s) .privilegeChange _⟩
  case lastManager =>
    exact exec_sourceWrite_of_ruling hat (hruling.trans (if_pos ⟨hwas, hends, otherManager_eq_false_iff.mpr halone⟩))
  case isTarget =>
    have hmanaged : ¬ ((s.source i).state = .manager ∧ c.state ≠ .manager ∧ otherManager s i = false) := by
      rintro ⟨hwas, -, halone⟩
      rcases hkeeps with hother | hmanager
      · exact hother hwas
      · simp [otherManager_iff.mpr hmanager] at halone
    rw [if_neg hmanaged] at hruling
    exact exec_sourceWrite_of_ruling hat (hruling.trans (if_pos ⟨hends, htarget⟩))

/-- Settles O38: a stream WRITE is ruled by its layout, a READ by its empty value and by the entry's code. -/
theorem streamWriteAndRead : Obligations.StreamWriteAndRead := by
  refine ⟨fun b i value s hat => ⟨fun c hvalue => ?write, fun hbad => ?writeBad⟩,
    fun b i value s hat => ⟨fun hvalue hcode => ?read, fun hvalue hcode => ?faulted, fun hvalue => ?readBad⟩⟩
  case write => exact exec_streamWrite_of_ruling hat (ruleStreamWrite_of_value (readStreamValue_iff.mpr hvalue))
  case writeBad => exact exec_streamWrite_of_ruling hat (ruleStreamWrite_badValue (readStreamValue_eq_none_iff.mpr hbad))
  case read =>
    subst hvalue
    exact exec_streamRead_of_ruling hat (ruleStreamRead_nil.trans (if_neg (by simp [hcode])))
  case faulted =>
    subst hvalue
    exact exec_streamRead_of_ruling hat (ruleStreamRead_nil.trans (if_pos hcode))
  case readBad => exact exec_streamRead_of_ruling hat (ruleStreamRead_badValue hvalue)

/-- Settles O43: the mask is stored, the entry is cleared by ACKNOWLEDGE, and by a READ in clear mode ON READ. -/
theorem conditionRecords : Obligations.ConditionRecords := by
  refine ⟨fun b k value s hat => ⟨fun masked hvalue => ?write, fun hzero hone => ?writeBad⟩,
    fun b k value s hat => ⟨fun hvalue => ?acknowledge, fun hvalue => ?acknowledgeBad⟩,
    fun b k value s hat => ⟨fun hvalue => ?read, fun hvalue => ?readBad⟩⟩
  case write =>
    rw [← storeMask_eq]
    exact exec_conditionWrite_of_ruling hat (ruleConditionWrite_of_value (readMaskValue_iff.mpr hvalue))
  case writeBad => exact exec_conditionWrite_of_ruling hat (ruleConditionWrite_badValue (readMaskValue_eq_none hzero hone))
  case acknowledge =>
    subst hvalue
    exact ⟨_, exec_acknowledge_of_ruling hat ruleAcknowledge_nil, clearCond_cleared s k⟩
  case acknowledgeBad => exact exec_acknowledge_of_ruling hat (ruleAcknowledge_badValue hvalue)
  case read =>
    subst hvalue
    exact ⟨_, exec_conditionRead_of_ruling hat ruleConditionRead_nil, afterConditionRead_onAcknowledge,
      fun hmode => afterConditionRead_onRead hmode ▸ clearCond_cleared s k⟩
  case readBad => exact exec_conditionRead_of_ruling hat (ruleConditionRead_badValue hvalue)

/-- Settles O44: a value that is read is ruled by the notice target and then by the reserve. -/
theorem deviceWriteChecksAndStores : Obligations.DeviceWriteChecksAndStores := by
  intro b value s hat
  refine ⟨fun reserve threshold target mode hreserve hthreshold hvalue => ?laid, fun hbad => ?badValue⟩
  case badValue =>
    exact exec_deviceWrite_of_ruling hat (ruleDeviceWrite_badValue (readDeviceValue_eq_none_iff.mpr hbad))
  case laid =>
    have hruling := ruleDeviceWrite_of_value (s := s) (readDeviceValue_iff.mpr ⟨hreserve, hthreshold, hvalue⟩)
    refine ⟨fun hother => ?_, fun hcode hmanager hover => ?_, fun hcode hmanager hunder => ?_⟩
    · have hbad : (s.source target).goodManager = false := by
        rw [← Bool.not_eq_true, goodManager_iff]
        rintro ⟨hcode, hmanager⟩
        rcases hother with hfaulted | hstate
        · simp [hcode] at hfaulted
        · exact hstate hmanager
      exact exec_deviceWrite_of_ruling hat (hruling.trans (if_pos hbad))
    · rw [if_neg (by simp [goodManager_iff.mpr ⟨hcode, hmanager⟩])] at hruling
      exact exec_deviceWrite_of_ruling hat (hruling.trans (if_pos hover))
    · rw [if_neg (by simp [goodManager_iff.mpr ⟨hcode, hmanager⟩]), if_neg (Nat.not_lt.mpr hunder)] at hruling
      exact exec_deviceWrite_of_ruling hat hruling

/-- Settles O45: the value names the view; the free slots of view 1 are the free list. -/
theorem deviceReadReturnsViews : Obligations.DeviceReadReturnsViews := by
  intro b value s hat
  refine ⟨fun hview => ?_, fun hview => ?_, fun hview => ?_, fun hnil hzero hone htwo => ?_⟩
  · exact exec_deviceRead_of_ruling hat (ruleDeviceRead_of_view (readView_of_nil_or_zero (by decide) hview))
  · subst hview
    rw [filter_everySlot]
    exact exec_deviceRead_of_ruling hat (ruleDeviceRead_of_view (v := 1) rfl)
  · subst hview
    exact exec_deviceRead_of_ruling hat (ruleDeviceRead_of_view (v := 2) rfl)
  · exact exec_deviceRead_of_ruling hat (ruleDeviceRead_badValue (readView_three_eq_none hnil hzero hone htwo))

/-- Settles O46: the value of a DISPATCH names the state. -/
theorem dispatchSetsState : Obligations.DispatchSetsState := by
  intro b value s hat
  refine ⟨fun hvalue => ?_, fun hvalue => ?_, fun hzero hone => ?_⟩
  · subst hvalue
    exact exec_dispatch_of_ruling hat (ruleDispatch_of_value rfl)
  · subst hvalue
    exact exec_dispatch_of_ruling hat (ruleDispatch_of_value rfl)
  · exact exec_dispatch_of_ruling hat (ruleDispatch_badValue (readDispatchValue_eq_none hzero hone))

/-- Settles O48: the value names the view of a READ, which is zero for a FREE slot; every WRITE is refused. -/
theorem slotReadAndWrite : Obligations.SlotReadAndWrite := by
  refine ⟨fun b n value s hat => ⟨fun hview hfree => ?freeZero, fun hview hfree => ?freeOne, fun hview hused => ?usedZero,
    fun hview hused => ?usedOne, fun hnil hzero hone => ?badValue⟩, fun b n value s hat => exec_slotWrite_refused hat⟩
  case freeZero =>
    exact exec_slotRead_of_ruling hat ((ruleSlotRead_of_view (readView_two_eq_zero hview)).trans (if_pos hfree))
  case freeOne =>
    exact exec_slotRead_of_ruling hat ((ruleSlotRead_of_view (readView_two_eq_one hview)).trans (if_pos hfree))
  case usedZero =>
    rw [← slotFlags_eq]
    exact exec_slotRead_of_ruling hat ((ruleSlotRead_of_view (readView_two_eq_zero hview)).trans (if_neg hused))
  case usedOne =>
    rw [← runningDeadline_eq]
    exact exec_slotRead_of_ruling hat ((ruleSlotRead_of_view (readView_two_eq_one hview)).trans (if_neg hused))
  case badValue => exact exec_slotRead_of_ruling hat (ruleSlotRead_badValue (readView_two_eq_none hnil hzero hone))

end Sys2Proof.Proofs

/-! DRAIN (R152, R153): the flush closes the HELD and the LADDERED slots of the domain one after another, and the obligation
that states it. -/

namespace Sys2Proof.Machine

variable {s : State} {b : Batch} {value : List Byte} {d : DomainNo} {n m : SlotNo}

/-! ## Closing a slot leaves every slot's domain -/

@[simp] theorem slot_leaveActive (r : FallReport) (d : DomainNo) (n : SlotNo) : (leaveActive r d s).slot n = s.slot n := by
  cases r with
  | atOnce =>
    simp only [leaveActive, completeDrain]
    split <;> simp [lowerActive]
  | deferred => simp [leaveActive, lowerActive]

theorem slot_releasePages_owe (st : SlotState) (a : Answer) (n m : SlotNo) : (releasePages n (owe st a n s)).slot m =
    if m = n then { s.slot n with
      state := st, answer := some a, holdDeadline := none, serviceDeadline := none, pages := 0, payload := [] }
    else s.slot m := by
  by_cases hm : m = n
  · subst hm
    simp [releasePages, slot_owe]
  · simp [releasePages, State.slot_setSlot, slot_owe, hm]

theorem closeHeld_slot_domain (code : CloseCode) (r : FallReport) (n m : SlotNo) :
    ((closeHeld code r n s).slot m).domain = (s.slot m).domain := by
  rw [closeHeld, slot_leaveActive, slot_releasePages_owe]
  split
  · rename_i hm
    subst hm
    rfl
  · rfl

theorem closeLaddered_slot_domain (code : CloseCode) (r : FallReport) (n m : SlotNo) :
    ((closeLaddered code r n s).slot m).domain = (s.slot m).domain := by
  rw [closeLaddered, slot_leaveActive, slot_releasePages_owe]
  split
  · rename_i hm
    subst hm
    rfl
  · rfl

/-! ## The two closings of a flush (R153) -/

theorem flushHeld_slot_domain (ns : List SlotNo) (m : SlotNo) :
    ((flushHeld ns s).slot m).domain = (s.slot m).domain := by
  induction ns generalizing s with
  | nil => rfl
  | cons n ns ih => exact ih.trans (closeHeld_slot_domain _ _ _ _)

theorem flushHeld_flushed {ns : List SlotNo} (hdomain : ∀ n ∈ ns, (s.slot n).domain = d) :
    FlushedHeld d ns s (flushHeld ns s) := by
  induction ns generalizing s with
  | nil => rfl
  | cons n ns ih =>
    obtain ⟨a, c, e, hleft, howes, hfreed, hfell⟩ := closeHeld_parts .drained .deferred n s
    rw [hdomain n List.mem_cons_self] at hfell
    exact ⟨a, c, e, _, hleft, howes, hfreed, hfell,
      ih fun m hm => (closeHeld_slot_domain _ _ n m).trans (hdomain m (List.mem_cons_of_mem n hm))⟩

theorem flushLaddered_flushed {ns : List SlotNo} (hdomain : ∀ n ∈ ns, (s.slot n).domain = d) :
    FlushedLaddered d ns s (flushLaddered ns s) := by
  induction ns generalizing s with
  | nil => rfl
  | cons n ns ih =>
    obtain ⟨a, c, e, hleft, howes, hfreed, hfell⟩ := closeLaddered_parts .drained .deferred n s
    rw [hdomain n List.mem_cons_self] at hfell
    exact ⟨a, c, e, _, hleft, howes, hfreed, hfell,
      ih fun m hm => (closeLaddered_slot_domain _ _ n m).trans (hdomain m (List.mem_cons_of_mem n hm))⟩

/-- The parts of a flush, in their order (R153). -/
theorem flushDomain_parts (d : DomainNo) (s : State) : ∃ u v, FlushedHeld d (heldOfDomain s d) s u ∧
    FlushedLaddered d (ladderedOfDomain s d) u v ∧
    GaveEach .atOnce ((ladderedOfDomain s d).map (fun n => (s.slot n).takeGate)) v (flushDomain d s) := by
  have hheld : ∀ n ∈ heldOfDomain s d, (s.slot n).domain = d := fun n hn => of_decide_eq_true (List.mem_filter.mp hn).2
  have hladdered : ∀ n ∈ ladderedOfDomain s d, ((flushHeld (heldOfDomain s d) s).slot n).domain = d := fun n hn =>
    (flushHeld_slot_domain _ n).trans (of_decide_eq_true (List.mem_filter.mp hn).2)
  exact ⟨_, _, flushHeld_flushed hheld, flushLaddered_flushed hladdered, giveEach_gave _ .atOnce _⟩

/-! ## The record (R152) -/

theorem exec_drain_of_ruling {x : Ruling} (hat : AtRecord s b 2 d.toNat 4 value)
    (hx : ruleDrain (domainRecord .drain d value) s = x) :
    exec .drain s = .next (x.state.withHead (b.afterRecord 2 d.toNat value x.status x.data)) :=
  exec_record (fun _ => rfl) hat rfl (owner_of_index d.isLt) hx

theorem drainable_iff {e : DomainEntry} : e.drainable = true ↔
    e.valid = true ∧ e.codeMatches = true ∧ e.state = .opened := by
  simp [DomainEntry.drainable, and_assoc]

theorem ruleDrain_of_mode {mode : DrainMode} (hread : readDrainValue value = some mode) :
    ruleDrain (domainRecord .drain d value) s =
      if (s.domain d).drainable then ruledDone (beginDrain d mode s) else ruledRefused s .wrongState := by
  simp only [ruleDrain, domainRecord, hread, BitVec.ofNat_toNat, BitVec.setWidth_eq]

theorem ruleDrain_badValue (hread : readDrainValue value = none) :
    ruleDrain (domainRecord .drain d value) s = ruledRefused s .badValue := by
  simp only [ruleDrain, domainRecord, hread]

theorem readDrainValue_eq_none (hwait : value ≠ [1]) (hflush : value ≠ [2]) : readDrainValue value = none := by
  match value with
  | [] | _ :: _ :: _ => rfl
  | [m] =>
    have hnotWait : m ≠ 1 := fun h => hwait (congrArg (fun m => [m]) h)
    have hnotFlush : m ≠ 2 := fun h => hflush (congrArg (fun m => [m]) h)
    rw [readDrainValue, readDrainMode, if_neg hnotWait, if_neg hnotFlush]

end Sys2Proof.Machine

namespace Sys2Proof.Proofs

open Sys2Proof.Machine

/-- Settles O37: a DRAIN of an OPEN domain waits or flushes, and then the end of the drain is checked. -/
theorem drainWaitsOrFlushes : Obligations.DrainWaitsOrFlushes := by
  intro b d value s hat
  refine ⟨fun hvalid hcode hopened => ⟨fun hvalue => ?wait, fun hvalue => ?flush⟩, fun hvalue hblocked => ?wrongState,
    fun hwait hflush => exec_drain_of_ruling hat (ruleDrain_badValue (readDrainValue_eq_none hwait hflush))⟩
  case wait =>
    subst hvalue
    have hruling := (ruleDrain_of_mode (s := s) (d := d) (mode := .wait) (value := [1]) rfl).trans
      (if_pos (drainable_iff.mpr ⟨hvalid, hcode, hopened⟩))
    exact ⟨_, exec_drain_of_ruling hat hruling, completeDrain_checked _ d⟩
  case flush =>
    subst hvalue
    have hruling := (ruleDrain_of_mode (s := s) (d := d) (mode := .flush) (value := [2]) rfl).trans
      (if_pos (drainable_iff.mpr ⟨hvalid, hcode, hopened⟩))
    obtain ⟨u, v, hheld, hladdered, hgave⟩ := flushDomain_parts d
      (s.setDomain d { s.domain d with state := .draining, mode := some .flush, codeMatches := true })
    exact ⟨u, v, _, _, exec_drain_of_ruling hat hruling, hheld, hladdered, hgave, completeDrain_checked _ d⟩
  case wrongState =>
    have hnotDrainable : ¬ (s.domain d).drainable = true := by
      rw [drainable_iff]
      rintro ⟨hvalid, hcode, hopened⟩
      rcases hblocked with hinvalid | hfaulted | hstate
      · simp [hvalid] at hinvalid
      · simp [hcode] at hfaulted
      · exact hstate hopened
    rcases hvalue with rfl | rfl
    · exact exec_drain_of_ruling hat ((ruleDrain_of_mode (mode := .wait) rfl).trans (if_neg hnotDrainable))
    · exact exec_drain_of_ruling hat ((ruleDrain_of_mode (mode := .flush) rfl).trans (if_neg hnotDrainable))

end Sys2Proof.Proofs

/-! The walk over the slots that RESTART and the session changes make (R37, R38, R90): each slot moves once and on its own, the
reference counts of the gates stay those of the slots, and of the other tables only queues and counts change. -/

namespace Sys2Proof.Machine

/-! ## Sums over a table -/

section Sums

variable {α : Type} {d : α} {t : Table α} {k : Nat} {f : α → Nat}

/-- The sum of a count over the listed entries of a table. -/
def Table.sum (f : α → Nat) (t : Table α) : Nat := (t.map (fun e => f e.2)).sum

theorem Table.sum_cons (e : Nat × α) : Table.sum f (e :: t) = f e.2 + Table.sum f t := by
  simp [Table.sum]

theorem Table.sum_insert (v : α) : Table.sum f (Table.insert k v t) = f v + Table.sum f t := by
  induction t with
  | nil => rfl
  | cons e t ih =>
    rw [Table.insert]
    split
    · rw [Table.sum_cons]
    · rw [Table.sum_cons, Table.sum_cons, ih]
      exact Nat.add_left_comm _ _ _

/-- Unlisting an entry takes its count off the sum, if an unlisted entry counts nothing. -/
theorem Table.sum_erase (hwf : Table.Wf d t) (hd : f d = 0) :
    Table.sum f (Table.erase t k) + f (Table.get d t k) = Table.sum f t := by
  obtain ⟨hrising, hlisted⟩ := hwf
  induction t with
  | nil => simp [Table.sum, Table.erase, Table.get, hd]
  | cons e t ih =>
    obtain ⟨hfirst, hrest⟩ := List.pairwise_cons.mp hrising
    have htail := ih hrest fun x hx => hlisted x (List.mem_cons_of_mem e hx)
    by_cases hkey : e.1 = k
    · have hkept : Table.erase t k = t := List.filter_eq_self.mpr fun x hx => by
        have hlater := hfirst x hx
        rw [hkey] at hlater
        exact bne_iff_ne.mpr hlater.ne'
      have herased : Table.erase (e :: t) k = Table.erase t k := by simp [Table.erase, hkey]
      rw [herased, hkept, Table.get, if_pos hkey, Table.sum_cons]
      omega
    · have herased : Table.erase (e :: t) k = e :: Table.erase t k := by simp [Table.erase, hkey]
      rw [herased, Table.get, if_neg hkey, Table.sum_cons, Table.sum_cons]
      omega

theorem Table.sum_set [DecidableEq α] (hwf : Table.Wf d t) (hd : f d = 0) (v : α) :
    Table.sum f (Table.set d t k v) + f (Table.get d t k) = Table.sum f t + f v := by
  have herased := Table.sum_erase (k := k) hwf hd
  rw [Table.set]
  split
  · rename_i hv
    rw [hv, hd]
    omega
  · rw [Table.sum_insert]
    omega

end Sums

variable {s t u : State} {n m : SlotNo} {g : GateNo} {ns : List SlotNo} {f : SlotNo → State → State}

/-! ## What a walk keeps of the other tables -/

/-- t is s after moves of slots: of the gates only hold queues and reference counts change, and these do not grow; of the
sources and the domains only the counts of slots. -/
structure Walked (s t : State) : Prop where
  gates : ∀ g, ∃ q r, r ≤ (s.gate g).references ∧ t.gate g = { s.gate g with holdQueue := q, references := r }
  sources : ∀ i, ∃ count, t.source i = { s.source i with outstanding := count }
  domains : ∀ d, ∃ count, t.domain d = { s.domain d with active := count }
  frame : t = { s with
    slots := t.slots, gates := t.gates, ladder := t.ladder, answers := t.answers, tagIndex := t.tagIndex
    sources := t.sources, domains := t.domains, freePages := t.freePages, txPages := t.txPages
    compPages := t.compPages }

theorem Walked.refl (s : State) : Walked s s :=
  ⟨fun _ => ⟨_, _, le_rfl, rfl⟩, fun _ => ⟨_, rfl⟩, fun _ => ⟨_, rfl⟩, rfl⟩

theorem Walked.trans (first : Walked s t) (second : Walked t u) : Walked s u where
  gates g := by
    obtain ⟨q, r, hle, hg⟩ := first.gates g
    obtain ⟨q', r', hle', hg'⟩ := second.gates g
    rw [hg] at hle' hg'
    exact ⟨q', r', hle'.trans hle, hg'⟩
  sources i := by
    obtain ⟨count, hi⟩ := first.sources i
    obtain ⟨count', hi'⟩ := second.sources i
    rw [hi] at hi'
    exact ⟨count', hi'⟩
  domains d := by
    obtain ⟨count, hd⟩ := first.domains d
    obtain ⟨count', hd'⟩ := second.domains d
    rw [hd] at hd'
    exact ⟨count', hd'⟩
  frame := by
    have hfirst := first.frame
    have hsecond := second.frame
    generalize u.slots = a, u.gates = b, u.ladder = c, u.answers = e, u.tagIndex = h, u.sources = i, u.domains = j,
      u.freePages = k, u.txPages = l, u.compPages = o at hsecond
    subst hsecond
    generalize t.slots = a', t.gates = b', t.ladder = c', t.answers = e', t.tagIndex = h', t.sources = i', t.domains = j',
      t.freePages = k', t.txPages = l', t.compPages = o' at hfirst
    subst hfirst
    rfl

theorem walked_setSlot (n : SlotNo) (x : Slot) (s : State) : Walked s (s.setSlot n x) :=
  ⟨fun _ => ⟨_, _, le_rfl, rfl⟩, fun _ => ⟨_, rfl⟩, fun _ => ⟨_, rfl⟩, rfl⟩

theorem walked_answers (q : List SlotNo) (s : State) : Walked s { s with answers := q } :=
  ⟨fun _ => ⟨_, _, le_rfl, rfl⟩, fun _ => ⟨_, rfl⟩, fun _ => ⟨_, rfl⟩, rfl⟩

theorem walked_setLevel (l : Level) (q : List SlotNo) (s : State) : Walked s (s.setLevel l q) :=
  ⟨fun _ => ⟨_, _, le_rfl, rfl⟩, fun _ => ⟨_, rfl⟩, fun _ => ⟨_, rfl⟩, rfl⟩

theorem walked_pages (tx comp : Nat) (s : State) : Walked s (freeCompPages comp (freeTxPages tx s)) :=
  ⟨fun _ => ⟨_, _, le_rfl, rfl⟩, fun _ => ⟨_, rfl⟩, fun _ => ⟨_, rfl⟩, rfl⟩

theorem walked_setGate {r : Nat} (hr : r ≤ (s.gate g).references) (q : List SlotNo) :
    Walked s (s.setGate g { s.gate g with holdQueue := q, references := r }) where
  gates h := by
    by_cases hg : h = g
    · subst hg
      exact ⟨q, r, hr, State.gate_setGate_same ..⟩
    · exact ⟨_, _, le_rfl, by rw [State.gate_setGate, if_neg hg]⟩
  sources _ := ⟨_, rfl⟩
  domains _ := ⟨_, rfl⟩
  frame := rfl

theorem walked_dropClaim (g : GateNo) (s : State) : Walked s (dropClaim g s) :=
  walked_setGate (Nat.sub_le _ _) _

theorem walked_leaveIndex (src : SourceNo) (tag : Byte) (s : State) : Walked s (leaveIndex src tag s) where
  gates _ := ⟨_, _, le_rfl, rfl⟩
  sources i := by
    by_cases hi : i = src
    · subst hi
      exact ⟨_, State.source_setSource_same ..⟩
    · exact ⟨_, by simp [leaveIndex, State.source_setSource, hi]; rfl⟩
  domains _ := ⟨_, rfl⟩
  frame := rfl

theorem walked_lowerActive (d : DomainNo) (s : State) : Walked s (lowerActive d s) where
  gates _ := ⟨_, _, le_rfl, rfl⟩
  sources _ := ⟨_, rfl⟩
  domains e := by
    by_cases he : e = d
    · subst he
      exact ⟨_, State.domain_setDomain_same ..⟩
    · exact ⟨_, by simp [lowerActive, State.domain_setDomain, he]; rfl⟩
  frame := rfl

theorem walked_leaveCollection (n : SlotNo) (s : State) : Walked s (leaveCollection n s) := by
  unfold leaveCollection
  split
  case h_2 => exact walked_setGate le_rfl _
  case h_3 => exact walked_setLevel _ _ s
  case h_5 | h_6 => exact walked_answers _ s
  all_goals exact .refl s

theorem walked_endIndex (x : Slot) (s : State) : Walked s (endIndex x s) := by
  unfold endIndex
  split
  · exact walked_leaveIndex _ _ s
  · exact .refl s

theorem walked_endActive (x : Slot) (s : State) : Walked s (endActive x s) := by
  unfold endActive
  split
  · exact walked_lowerActive _ s
  · exact .refl s

theorem walked_ended (n : SlotNo) (s : State) :
    Walked s (endActive (s.slot n) (endIndex (s.slot n) (leaveCollection n s))) :=
  (walked_leaveCollection n s).trans <| (walked_endIndex _ _).trans <| walked_endActive _ _

theorem walked_freeSlot (n : SlotNo) (s : State) : Walked s (freeSlot n s) :=
  (walked_ended n s).trans <| (walked_dropClaim _ _).trans <| (walked_dropClaim _ _).trans <|
    (walked_pages _ _ _).trans <| walked_setSlot _ _ _

theorem walked_lapseSlot (n : SlotNo) (s : State) : Walked s (lapseSlot n s) :=
  (walked_ended n s).trans <| walked_setSlot _ _ _

theorem walked_owe (st : SlotState) (a : Answer) (n : SlotNo) (s : State) : Walked s (owe st a n s) :=
  (walked_setSlot _ _ s).trans <| walked_answers _ _

/-! ## The slots that a walk visits -/

theorem mem_everySlot (n : SlotNo) : n ∈ everySlot := by
  refine List.mem_map.mpr ⟨n.toNat, List.mem_range.mpr n.isLt, ?_⟩
  simp

theorem nodup_everySlot : everySlot.Nodup := by
  refine List.Nodup.map_on (fun x hx y hy hxy => ?_) List.nodup_range
  have heq := congrArg BitVec.toNat hxy
  rwa [BitVec.toNat_ofNat, BitVec.toNat_ofNat, Nat.mod_eq_of_lt (List.mem_range.mp hx),
    Nat.mod_eq_of_lt (List.mem_range.mp hy)] at heq

theorem mem_usedSlots (hs : TablesCanonical s) : n ∈ s.usedSlots ↔ (s.slot n).state ≠ .free := by
  rw [usedSlots_eq hs, List.mem_filter, decide_eq_true_eq]
  exact and_iff_right (mem_everySlot n)

theorem nodup_usedSlots (hs : TablesCanonical s) : s.usedSlots.Nodup := by
  rw [usedSlots_eq hs]
  exact nodup_everySlot.filter _

/-! ## One walk -/

/-- Each step of a walk moves the record of its own slot by move, and touches no other slot. -/
def MovesAlone (move : Slot → Slot) (f : SlotNo → State → State) : Prop :=
  ∀ n s m, (f n s).slot m = if m = n then move (s.slot n) else s.slot m

theorem MovesAlone.other {move : Slot → Slot} (hf : MovesAlone move f) (hm : m ≠ n) : (f n s).slot m = s.slot m :=
  (hf n s m).trans (if_neg hm)

theorem slot_moveEach {move : Slot → Slot} (hf : MovesAlone move f) (hns : ns.Nodup) :
    (moveEach f ns s).slot m = if m ∈ ns then move (s.slot m) else s.slot m := by
  induction ns generalizing s with
  | nil => rfl
  | cons n ns ih =>
    obtain ⟨hnew, hrest⟩ := List.nodup_cons.mp hns
    rw [moveEach, ih hrest, hf n s m]
    by_cases hm : m = n
    · subst hm
      simp [hnew]
    · simp [hm]

/-- A walk over the slots in use moves every slot, when the move leaves a FREE one. -/
theorem slot_moveEach_usedSlots {move : Slot → Slot} (hf : MovesAlone move f) (hs : TablesCanonical s)
    (hfree : (s.slot m).state = .free → move (s.slot m) = s.slot m) :
    (moveEach f s.usedSlots s).slot m = move (s.slot m) := by
  rw [slot_moveEach hf (nodup_usedSlots hs)]
  split
  · rfl
  · rename_i hunused
    exact (hfree (not_not.mp (mt (mem_usedSlots hs).mpr hunused))).symm

/-- What every step keeps at a slot that fits P, a walk over such slots keeps. -/
theorem moveEach_keeps {move : Slot → Slot} (hf : MovesAlone move f) {P : Slot → Prop} {Q : State → Prop}
    (hstep : ∀ n s, P (s.slot n) → Q s → Q (f n s)) (hns : ns.Nodup) (hP : ∀ n ∈ ns, P (s.slot n)) (hQ : Q s) :
    Q (moveEach f ns s) := by
  induction ns generalizing s with
  | nil => exact hQ
  | cons n ns ih =>
    obtain ⟨hnew, hrest⟩ := List.nodup_cons.mp hns
    refine ih hrest (fun m hm => ?_) (hstep n s (hP n List.mem_cons_self) hQ)
    have hother : m ≠ n := fun heq => hnew (heq ▸ hm)
    rw [hf.other hother]
    exact hP m (List.mem_cons_of_mem n hm)

/-! ## The reference counts of the gates (R33) -/

/-- The reference count of every gate is the number of the slots' claims on it. -/
def ClaimsCounted (s : State) : Prop := ∀ g, (s.gate g).references = Table.sum (Slot.claimsOn g) s.slots

theorem DeviceLaws.claimsCounted (hs : DeviceLaws s) : ClaimsCounted s := hs.counted.references

theorem claims_setSlot (hs : TablesCanonical s) (x : Slot) :
    Table.sum (Slot.claimsOn g) (s.slots.set Slot.reset n.toNat x) + (s.slot n).claimsOn g =
      Table.sum (Slot.claimsOn g) s.slots + x.claimsOn g :=
  Table.sum_set hs.slots.wf rfl x

theorem claimsOn_of_used {x : Slot} (hused : x.state ≠ .free) :
    x.claimsOn g = (if x.takeGate = g then 1 else 0) + (if x.giveGate = g then 1 else 0) :=
  if_neg hused

theorem ended_slots (n : SlotNo) (s : State) :
    (endActive (s.slot n) (endIndex (s.slot n) (leaveCollection n s))).slots = s.slots := by
  obtain ⟨_, hactive⟩ := endActive_frame (endIndex (s.slot n) (leaveCollection n s)) (s.slot n)
  obtain ⟨_, _, hindex⟩ := endIndex_frame (leaveCollection n s) (s.slot n)
  obtain ⟨_, _, _, hcollection⟩ := leaveCollection_frame s n
  rw [hactive, hindex, hcollection]

theorem freeSlot_slots (n : SlotNo) (s : State) : (freeSlot n s).slots = s.slots.set Slot.reset n.toNat Slot.reset := by
  simp [freeSlot, dropClaim, State.setSlot, ended_slots]

theorem lapseSlot_slots (n : SlotNo) (s : State) : (lapseSlot n s).slots = s.slots.set Slot.reset n.toNat
    { s.slot n with state := .lapsed, answer := none, holdDeadline := none, serviceDeadline := none } := by
  simp only [lapseSlot, State.setSlot, ended_slots]

theorem slot_lapseSlot (n : SlotNo) (s : State) (m : SlotNo) : (lapseSlot n s).slot m = if m = n then
    { s.slot n with state := .lapsed, answer := none, holdDeadline := none, serviceDeadline := none } else s.slot m := by
  have hslot : (lapseSlot n s).slot m = (s.setSlot n { s.slot n with
      state := .lapsed, answer := none, holdDeadline := none, serviceDeadline := none }).slot m :=
    congrArg (Table.get Slot.reset · m.toNat) (lapseSlot_slots n s)
  rw [hslot, State.slot_setSlot]

theorem slot_freeSlot (n : SlotNo) (s : State) (m : SlotNo) :
    (freeSlot n s).slot m = if m = n then Slot.reset else s.slot m := by
  split
  · rename_i hm
    subst hm
    exact (freeSlot_freed s m).slot
  · rename_i hm
    exact (freeSlot_freed s n).others m hm

theorem claimsCounted_freeSlot (hs : TablesCanonical s) (hcounted : ClaimsCounted s) (hused : (s.slot n).state ≠ .free) :
    ClaimsCounted (freeSlot n s) := by
  intro g
  have hsum := claims_setSlot (n := n) (g := g) hs Slot.reset
  have hreset : Slot.reset.claimsOn g = 0 := rfl
  rw [(freeSlot_freed s n).gates g, freeSlot_slots, hcounted g]
  rw [claimsOn_of_used hused, hreset] at hsum
  simp only [eq_comm (a := g)]
  omega

theorem leaveCollection_references (n : SlotNo) (s : State) (g : GateNo) :
    ((leaveCollection n s).gate g).references = (s.gate g).references := by
  unfold leaveCollection
  split
  case h_2 =>
    by_cases hg : g = (s.slot n).takeGate
    · subst hg
      simp [leaveHoldQueue]
    · simp [leaveHoldQueue, State.gate_setGate, hg]
  all_goals rfl

theorem lapseSlot_references (n : SlotNo) (s : State) (g : GateNo) :
    ((lapseSlot n s).gate g).references = (s.gate g).references := by
  obtain ⟨_, hactive⟩ := endActive_frame (endIndex (s.slot n) (leaveCollection n s)) (s.slot n)
  obtain ⟨_, _, hindex⟩ := endIndex_frame (leaveCollection n s) (s.slot n)
  rw [lapseSlot, hactive, hindex]
  exact leaveCollection_references n s g

/-- A change of a slot's record that keeps its claims keeps the counts. -/
theorem claimsCounted_of_set {x : Slot} (hs : TablesCanonical s) (hcounted : ClaimsCounted s)
    (hgates : ∀ g, (t.gate g).references = (s.gate g).references) (hslots : t.slots = s.slots.set Slot.reset n.toNat x)
    (hclaims : ∀ g, x.claimsOn g = (s.slot n).claimsOn g) : ClaimsCounted t := by
  intro g
  have hsum := claims_setSlot (n := n) (g := g) hs x
  rw [hgates, hslots, hcounted g]
  rw [hclaims] at hsum
  omega

theorem claimsOn_of_same {x y : Slot} (hx : x.state ≠ .free) (hy : y.state ≠ .free) (htake : y.takeGate = x.takeGate)
    (hgive : y.giveGate = x.giveGate) : y.claimsOn g = x.claimsOn g := by
  rw [claimsOn_of_used hx, claimsOn_of_used hy, htake, hgive]

theorem claimsCounted_lapseSlot (hs : TablesCanonical s) (hcounted : ClaimsCounted s)
    (hused : (s.slot n).state ≠ .free) : ClaimsCounted (lapseSlot n s) :=
  claimsCounted_of_set hs hcounted (lapseSlot_references n s) (lapseSlot_slots n s)
    fun _ => claimsOn_of_same hused nofun rfl rfl

theorem claimsCounted_setSlot {x : Slot} (hs : TablesCanonical s) (hcounted : ClaimsCounted s)
    (hused : (s.slot n).state ≠ .free) (hx : x.state ≠ .free) (htake : x.takeGate = (s.slot n).takeGate)
    (hgive : x.giveGate = (s.slot n).giveGate) : ClaimsCounted (s.setSlot n x) :=
  claimsCounted_of_set hs hcounted (fun _ => rfl) rfl fun _ => claimsOn_of_same hused hx htake hgive

/-- What RESTART and an initiator session change keep during their walk. -/
structure WalkLaws (s t : State) : Prop where
  canonical : TablesCanonical t
  claims : ClaimsCounted t
  walked : Walked s t

theorem DeviceLaws.walkLaws (hs : DeviceLaws s) : WalkLaws s s :=
  ⟨hs.canonical, hs.claimsCounted, .refl s⟩

theorem WalkLaws.freeSlot (h : WalkLaws s t) (hused : (t.slot n).state ≠ .free) : WalkLaws s (freeSlot n t) :=
  ⟨(Adjusted.refl.freeSlot n).canonical h.canonical, claimsCounted_freeSlot h.canonical h.claims hused,
    h.walked.trans (walked_freeSlot n t)⟩

theorem WalkLaws.lapseSlot (h : WalkLaws s t) (hused : (t.slot n).state ≠ .free) : WalkLaws s (lapseSlot n t) :=
  ⟨(Adjusted.refl.lapseSlot n).canonical h.canonical, claimsCounted_lapseSlot h.canonical h.claims hused,
    h.walked.trans (walked_lapseSlot n t)⟩

theorem WalkLaws.setSlot {x : Slot} (h : WalkLaws s t) (hused : (t.slot n).state ≠ .free) (hx : x.state ≠ .free)
    (htake : x.takeGate = (t.slot n).takeGate) (hgive : x.giveGate = (t.slot n).giveGate) :
    WalkLaws s (t.setSlot n x) :=
  ⟨(Adjusted.refl.setSlot n x).canonical h.canonical, claimsCounted_setSlot h.canonical h.claims hused hx htake hgive,
    h.walked.trans (walked_setSlot n x t)⟩

end Sys2Proof.Machine

/-! RESTART (R37, R141) and the initiator session change (R38, R171): the move of each slot, what stands in every block after
the walk and the emptied collections, and the obligations that state them. -/

namespace Sys2Proof.Machine

variable {s t : State} {n m : SlotNo} {g : GateNo} {b : Batch} {value : List Byte}

/-! ## The moves of one slot -/

/-- The record of a slot that becomes LAPSED (R28). -/
def Slot.lapsedRecord (x : Slot) : Slot :=
  { x with state := .lapsed, answer := none, holdDeadline := none, serviceDeadline := none }

/-- The table of R37. -/
def Slot.restarted (x : Slot) : Slot :=
  match x.state with
  | .free => x
  | .held | .laddered | .answering => Slot.reset
  | .serving | .lapsing => { x.lapsedRecord with giveOnCompletion := false }
  | .lapsed => { x with giveOnCompletion := false }

/-- The table of R38. -/
def Slot.initiatorChanged (x : Slot) : Slot :=
  match x.state with
  | .free | .lapsed => x
  | .held | .laddered | .answering => Slot.reset
  | .serving => x.lapsedRecord
  | .lapsing => if x.completionExpected then x.lapsedRecord else Slot.reset

theorem slot_same {x : Slot} (hx : x = s.slot n) (m : SlotNo) : s.slot m = if m = n then x else s.slot m := by
  split
  · rename_i hm
    rw [hx, hm]
  · rfl

theorem slot_modify_lapseSlot (n : SlotNo) (s : State) (m : SlotNo) :
    (modifySlot n (fun x => { x with giveOnCompletion := false }) (lapseSlot n s)).slot m =
      if m = n then { (s.slot n).lapsedRecord with giveOnCompletion := false } else s.slot m := by
  by_cases hm : m = n
  · subst hm
    simp [slot_lapseSlot, Slot.lapsedRecord]
  · simp [State.slot_setSlot, slot_lapseSlot, hm]

theorem restartSlot_moves : MovesAlone Slot.restarted restartSlot := by
  intro n s m
  cases hstate : (s.slot n).state <;> simp only [restartSlot, Slot.restarted, hstate]
  case free => exact slot_same rfl m
  case held | laddered | answering => exact slot_freeSlot n s m
  case serving | lapsing => exact slot_modify_lapseSlot n s m
  case lapsed =>
    rw [← hstate]
    exact State.slot_setSlot ..

theorem initiatorChangeSlot_moves : MovesAlone Slot.initiatorChanged initiatorChangeSlot := by
  intro n s m
  cases hstate : (s.slot n).state <;> simp only [initiatorChangeSlot, Slot.initiatorChanged, hstate]
  case free | lapsed => exact slot_same rfl m
  case held | laddered | answering => exact slot_freeSlot n s m
  case serving => exact slot_lapseSlot n s m
  case lapsing =>
    split
    · exact slot_lapseSlot n s m
    · exact slot_freeSlot n s m

theorem WalkLaws.restartSlot (h : WalkLaws s t) (hused : (t.slot n).state ≠ .free) : WalkLaws s (restartSlot n t) := by
  have hlapsed : ((Machine.lapseSlot n t).slot n).state ≠ .free := by
    rw [slot_lapseSlot, if_pos rfl]
    nofun
  cases hstate : (t.slot n).state <;> simp only [Machine.restartSlot, hstate]
  case free => exact h
  case held | laddered | answering => exact h.freeSlot hused
  case serving | lapsing => exact (h.lapseSlot hused).setSlot hlapsed hlapsed rfl rfl
  case lapsed => exact h.setSlot hused hused rfl rfl

theorem WalkLaws.initiatorChangeSlot (h : WalkLaws s t) (hused : (t.slot n).state ≠ .free) :
    WalkLaws s (initiatorChangeSlot n t) := by
  cases hstate : (t.slot n).state <;> simp only [Machine.initiatorChangeSlot, hstate]
  case free | lapsed => exact h
  case held | laddered | answering => exact h.freeSlot hused
  case serving => exact h.lapseSlot hused
  case lapsing =>
    split
    · exact h.lapseSlot hused
    · exact h.freeSlot hused

theorem walkLaws_usedSlots {move : Slot → Slot} {f : SlotNo → State → State} (hf : MovesAlone move f)
    (hstep : ∀ n t, (t.slot n).state ≠ .free → WalkLaws s t → WalkLaws s (f n t)) (hs : WalkLaws s s) :
    WalkLaws s (moveEach f s.usedSlots s) :=
  moveEach_keeps (P := fun x => x.state ≠ .free) hf hstep (nodup_usedSlots hs.canonical) (fun _ hn => (mem_usedSlots hs.canonical).mp hn) hs

/-! ## What the emptied collections leave (R18, R20) -/

section Cleared

theorem slot_clearCollections (n : SlotNo) : (clearCollections s).slot n = s.slot n := rfl

theorem gate_clearCollections (hs : TablesCanonical s) (g : GateNo) :
    (clearCollections s).gate g = { s.gate g with holdQueue := [] } :=
  Table.get_mapValues hs.gates.wf rfl g.toNat

theorem source_clearCollections (hs : TablesCanonical s) (i : SourceNo) :
    (clearCollections s).source i = { s.source i with outstanding := 0 } :=
  Table.get_mapValues (f := fun e => { e with outstanding := 0 }) hs.sources.wf rfl i.toNat

theorem domain_clearCollections (hs : TablesCanonical s) (d : DomainNo) :
    (clearCollections s).domain d = { s.domain d with active := 0 } :=
  Table.get_mapValues (f := fun e => { e with active := 0 }) hs.domains.wf rfl d.toNat

/-- After a walk and the emptied collections a gate has no waiters, and its count is that of the slots' claims. -/
theorem gate_cleared (h : WalkLaws s t) (g : GateNo) : (clearCollections t).gate g = { s.gate g with
    holdQueue := [], references := ((clearCollections t).slots.map (fun e => e.2.claimsOn g)).sum } := by
  obtain ⟨q, r, -, hgate⟩ := h.walked.gates g
  have hclaims : r = ((clearCollections t).slots.map (fun e => e.2.claimsOn g)).sum := by
    have hcount := h.claims g
    rw [hgate] at hcount
    exact hcount
  rw [gate_clearCollections h.canonical, hgate, ← hclaims]

theorem source_cleared (h : WalkLaws s t) (i : SourceNo) :
    (clearCollections t).source i = { s.source i with outstanding := 0 } := by
  obtain ⟨count, hsource⟩ := h.walked.sources i
  rw [source_clearCollections h.canonical, hsource]

theorem domain_cleared (h : WalkLaws s t) (d : DomainNo) :
    (clearCollections t).domain d = { s.domain d with active := 0 } := by
  obtain ⟨count, hdomain⟩ := h.walked.domains d
  rw [domain_clearCollections h.canonical, hdomain]

theorem Walked.clearCollections_frame (h : Walked s t) : clearCollections t = { s with
    slots := (clearCollections t).slots, gates := (clearCollections t).gates, ladder := (clearCollections t).ladder
    answers := (clearCollections t).answers, tagIndex := (clearCollections t).tagIndex
    sources := (clearCollections t).sources, domains := (clearCollections t).domains
    freePages := (clearCollections t).freePages, txPages := (clearCollections t).txPages
    compPages := (clearCollections t).compPages } := by
  have hframe := h.frame
  generalize t.slots = a, t.gates = b, t.ladder = c, t.answers = e, t.tagIndex = h, t.sources = i, t.domains = j,
    t.freePages = k, t.txPages = l, t.compPages = o at hframe
  subst hframe
  rfl

end Cleared

/-! ## RESTART -/

/-- The state of RESTART before the tables are reset. -/
def restartWalk (s : State) : State := moveEach restartSlot s.usedSlots s

theorem restartWalk_laws (hs : DeviceLaws s) : WalkLaws s (restartWalk s) :=
  walkLaws_usedSlots restartSlot_moves (fun _ _ hused h => h.restartSlot hused) hs.walkLaws

theorem slot_restartBlocks (hs : DeviceLaws s) (n : SlotNo) : (restartBlocks s).slot n = (s.slot n).restarted :=
  slot_moveEach_usedSlots restartSlot_moves hs.canonical fun hfree => by simp only [Slot.restarted, hfree]

theorem cleared_canonical (h : WalkLaws s t) : TablesCanonical (clearCollections t) :=
  Adjusted.refl.clearCollections.canonical h.canonical

theorem gate_restartBlocks (hs : DeviceLaws s) (g : GateNo) :
    (restartBlocks s).gate g = ((clearCollections (restartWalk s)).gate g).restarted :=
  Table.get_mapValues (cleared_canonical (restartWalk_laws hs)).gates.wf rfl g.toNat

theorem source_restartBlocks (hs : DeviceLaws s) (i : SourceNo) :
    (restartBlocks s).source i = ((clearCollections (restartWalk s)).source i).restarted :=
  Table.get_mapValues (cleared_canonical (restartWalk_laws hs)).sources.wf rfl i.toNat

theorem domain_restartBlocks (hs : DeviceLaws s) (d : DomainNo) :
    (restartBlocks s).domain d = ((clearCollections (restartWalk s)).domain d).restarted :=
  Table.get_mapValues (cleared_canonical (restartWalk_laws hs)).domains.wf rfl d.toNat

theorem cond_restartBlocks (hs : DeviceLaws s) (k : CondKind) : (restartBlocks s).cond k = (s.cond k).cleared := by
  have hcond : (clearCollections (restartWalk s)).conditions = s.conditions := by
    rw [(restartWalk_laws hs).walked.clearCollections_frame]
  have hentry := Table.get_mapValues (f := CondEntry.cleared) (cleared_canonical (restartWalk_laws hs)).conditions.wf rfl
    k.number
  show Table.get _ (Table.mapValues _ _ (clearCollections (restartWalk s)).conditions) k.number = _
  rw [hentry, hcond]
  rfl

/-- A LAPSED slot has no answer and no deadline. -/
theorem Slot.Shaped.lapsedRecord {x : Slot} (h : x.Shaped) (hstate : x.state = .lapsed) : x.lapsedRecord = x := by
  have hanswer : x.answer = none := by
    by_contra hsome
    rcases h.answer.mp hsome with hother | hother <;> simp [hstate] at hother
  have hhold : x.holdDeadline = none := by
    by_contra hsome
    have hheld := h.holdDeadline hsome
    simp [hstate] at hheld
  have hservice : x.serviceDeadline = none := by
    by_contra hsome
    have hserving := h.serviceDeadline hsome
    simp [hstate] at hserving
  cases x
  simp_all [Slot.lapsedRecord]

theorem restarted_frame {r : State} (h : Walked s t) (hr : r = { clearCollections t with
      gates := r.gates, sources := r.sources, domains := r.domains, dispatch := r.dispatch, notices := r.notices
      runCount := r.runCount, conditions := r.conditions }) : r = { s with
    slots := r.slots, gates := r.gates, ladder := r.ladder, answers := r.answers, tagIndex := r.tagIndex
    sources := r.sources, domains := r.domains, freePages := r.freePages, txPages := r.txPages
    compPages := r.compPages, dispatch := r.dispatch, conditions := r.conditions, notices := r.notices
    runCount := r.runCount } := by
  have hframe := h.clearCollections_frame
  generalize clearCollections t = c at hr hframe
  generalize r.gates = a, r.sources = b, r.domains = d, r.dispatch = e, r.notices = h, r.runCount = i,
    r.conditions = j at hr
  subst hr
  generalize c.slots = a', c.gates = b', c.ladder = c', c.answers = d', c.tagIndex = e', c.sources = h', c.domains = i',
    c.freePages = j', c.txPages = k', c.compPages = l' at hframe
  subst hframe
  rfl

theorem restarted_gate_of_invalid (hs : DeviceLaws s) (hinvalid : (s.gate g).valid = false) :
    (restartBlocks s).gate g = s.gate g := by
  obtain ⟨q, r, hle, hgate⟩ := (restartWalk_laws hs).walked.gates g
  obtain ⟨-, hqueue, hreferences⟩ := (hs.gates g).invalid hinvalid
  have hr : r = 0 := Nat.le_zero.mp (hreferences ▸ hle)
  rw [gate_restartBlocks hs, gate_clearCollections (restartWalk_laws hs).canonical, hgate, hr, Gate.restarted,
    if_neg (by simp [hinvalid]), ← hqueue, ← hreferences]

theorem restarted_gate_of_valid (hs : DeviceLaws s) (hvalid : (s.gate g).valid = true) :
    (restartBlocks s).gate g = { s.gate g with
      allowance := (s.gate g).ceiling, holdQueue := [], takes := 0, gives := 0, holds := 0, expiries := 0, surplus := 0
      references := ((restartBlocks s).slots.map (fun e => e.2.claimsOn g)).sum } := by
  rw [gate_restartBlocks hs, gate_cleared (restartWalk_laws hs), Gate.restarted, if_pos hvalid]
  rfl

theorem restartBlocks_restarted (hs : DeviceLaws s) : Restarted s (restartBlocks s) where
  kept n hfree := by
    rw [slot_restartBlocks hs]
    simp only [Slot.restarted, hfree]
  freed n hstate := by
    rw [slot_restartBlocks hs]
    rcases hstate with hstate | hstate | hstate <;> simp only [Slot.restarted, hstate]
  lapsed n hstate := by
    rw [slot_restartBlocks hs]
    rcases hstate with hstate | hstate | hstate
    · simp only [Slot.restarted, hstate, Slot.lapsedRecord]
    · simp only [Slot.restarted, hstate, Slot.lapsedRecord]
    · have hsame := (hs.shaped n).lapsedRecord hstate
      calc (s.slot n).restarted = { s.slot n with giveOnCompletion := false } := by simp only [Slot.restarted, hstate]
        _ = { (s.slot n).lapsedRecord with giveOnCompletion := false } := by rw [hsame]
  validGates _ := restarted_gate_of_valid hs
  invalidGates _ := restarted_gate_of_invalid hs
  levels _ := rfl
  answers := rfl
  tags _ _ := rfl
  sources i := by
    rw [source_restartBlocks hs, source_cleared (restartWalk_laws hs)]
    rfl
  drained d hcode hdraining := by
    rw [domain_restartBlocks hs, domain_cleared (restartWalk_laws hs), DomainEntry.restarted,
      if_pos (by simp [hcode, hdraining])]
    simp only [hcode]
  domains d hother := by
    rw [domain_restartBlocks hs, domain_cleared (restartWalk_laws hs), DomainEntry.restarted, if_neg]
    rintro hdrains
    simp only [Bool.and_eq_true, decide_eq_true_eq] at hdrains
    rcases hother with hfaulted | hstate
    · simp [hdrains.1] at hfaulted
    · exact hstate hdrains.2
  pages := ⟨rfl, rfl, rfl⟩
  dispatch := rfl
  conditions k := cond_restartBlocks hs k
  notices := rfl
  runCount := rfl
  frame := restarted_frame (restartWalk_laws hs).walked rfl

/-! ## The RESTART record (R138, R141) -/

theorem takeRestart_of_action {rule : Record → State → Ruling} {r : Record}
    (haction : currentAction s = some (b, .owned .restart r)) : takeRestart rule s =
      if (rule r s).status = .done then
        finishBatch { b.stopAt .done (b.walkBehind r) with applied := b.applied + 1 } (rule r s).state
      else setHeadBatch (b.took r (rule r s).status (rule r s).data) (rule r s).state := by
  simp only [takeRestart, haction]

theorem currentAction_restart (hat : AtRecord s b 7 0 9 value) :
    currentAction s = some (b, .owned .restart { table := 7, index := 0, kind := .restart, value := value }) :=
  currentAction_atRecord hat rfl

theorem exec_restart_done (hat : AtRecord s b 7 0 9 []) :
    exec .restart s = .next (finishBatch { b.stopAt .done
      (b.walkBehind { table := 7, index := 0, kind := .restart, value := [] }) with applied := b.applied + 1 }
      (restartBlocks s)) := by
  have htaken := takeRestart_of_action (rule := ruleRestart) (currentAction_restart hat)
  rw [ruleRestart_nil rfl] at htaken
  exact congrArg Host.Outcome.next (htaken.trans (if_pos rfl))

theorem exec_restart_refused (hat : AtRecord s b 7 0 9 value) (hvalue : value ≠ []) :
    exec .restart s = .next (s.withHead (b.afterRecord 7 0 value .badValue [])) := by
  have htaken := takeRestart_of_action (rule := ruleRestart) (currentAction_restart hat)
  rw [ruleRestart_badValue hvalue] at htaken
  exact congrArg Host.Outcome.next (htaken.trans (if_neg nofun))

/-- A RESTART reported DONE counts itself, and its batch walks the later positions. -/
theorem finishBatch_restart {later : List ReportEntry} {more : Nat}
    (hlater : later = List.replicate more { status := .notApplied, data := [] }) (b : Batch) (s : State) :
    finishBatch { b.stopAt .done later with applied := b.applied + 1 } s = s.finished b (b.applied + 1) .done more := by
  subst hlater
  rfl

end Sys2Proof.Machine

namespace Sys2Proof.Proofs

open Sys2Proof.Machine

/-- Settles O47: the walk over the slots, the emptied collections and the reset tables leave what R141 says, and the batch
stops at the RESTART. -/
theorem restartResetsBlocks : Obligations.RestartResetsBlocks := by
  intro b value s hat
  refine ⟨fun hvalue hs => ?done, exec_restart_refused hat⟩
  case done =>
    subst hvalue
    obtain ⟨later, hbytes⟩ := hat.bytes
    obtain ⟨more, hwalks, hlater⟩ := walk_walks 31 (b.position + 1) later (by omega)
    have hbehind := congrArg (walk 32 (b.position + 1)) (drop_behind_recordBytes hbytes)
    exact ⟨restartBlocks s, more, later, hbytes, hwalks, restartBlocks_restarted hs,
      (exec_restart_done hat).trans (congrArg _ (finishBatch_restart (hbehind.trans hlater) b (restartBlocks s)))⟩

end Sys2Proof.Proofs

/-! The initiator session change (R38, R171): the port, the walk over the slots, the give-backs, the emptied queues and the
ends of drains, and the obligation that states them. -/

namespace Sys2Proof.Machine

variable {s t : State} {n : SlotNo} {credit session : Byte} {p : PortId}

/-! ## The port at the UP of a new session -/

/-- The state in which a session change begins its walk: the own number stored and the port renewed. -/
def renewed (p : PortId) (credit session : Byte) (s : State) : State :=
  modifyPort p (fun q => q.newSession credit session s.ownSession) (announceOwn s)

theorem renewed_walkLaws (hs : DeviceLaws s) (p : PortId) (credit session : Byte) :
    WalkLaws (renewed p credit session s) (renewed p credit session s) where
  canonical := TablesCanonical.setPort (s := announceOwn s) { hs.canonical with } p _
  claims := by
    cases p
    · exact hs.claimsCounted
    · exact hs.claimsCounted
  walked := .refl _

theorem exec_up_changes (htraining : (s.port p).link = .training) (hannounced : (s.port p).announced = true)
    (hcredit : credit ≠ 0) (hnew : session ≠ (s.port p).session) : exec (.up p credit session) s =
      .next (raiseLinkChange p (sessionChange p credit session (announceOwn s))) := by
  rw [exec_up_reaches htraining hcredit, reachUp_sessionChange hannounced hnew]

/-- The ends of drains that an event reports last, domain by domain. -/
theorem completeDrains_checked (s : State) : ∃ d0 d1 d2, DrainChecked 0 s d0 ∧ DrainChecked 1 d0 d1 ∧
    DrainChecked 2 d1 d2 ∧ DrainChecked 3 d2 (completeDrains s) :=
  ⟨_, _, _, completeDrain_checked s 0, completeDrain_checked _ 1, completeDrain_checked _ 2, completeDrain_checked _ 3⟩

theorem port_completeDrains (s : State) (p : PortId) : (completeDrains s).port p = s.port p :=
  (Adjusted.refl.completeDrains (s := s)).sameQueues.port p

theorem port_giveEach (c : GiveCause) (r : FallReport) (gs : List GateNo) (s : State) (p : PortId) :
    (giveEach c r gs s).port p = s.port p :=
  (Adjusted.refl.giveEach (s := s) c r gs).sameQueues.port p

/-- LINK CHANGE shows the renewed port, when the rest of the change keeps it. -/
theorem raiseLinkChange_renewed (hport : t.port p = (s.port p).newSession credit session s.ownSession) :
    Raised (linkCondition p) ((2 : Byte) ++ session ++ (0 : BitVec 16)) t (raiseLinkChange p t) :=
  raiseLinkChange_up (by rw [hport]; rfl) (by rw [hport]; rfl)

/-! ## The moves of an initiator session change -/

/-- The state after the walk of an initiator session change. -/
def initiatorWalk (credit session : Byte) (s : State) : State :=
  moveEach initiatorChangeSlot s.usedSlots (renewed .initiator credit session s)

theorem initiatorWalk_laws (hs : DeviceLaws s) :
    WalkLaws (renewed .initiator credit session s) (initiatorWalk credit session s) :=
  walkLaws_usedSlots initiatorChangeSlot_moves (fun _ _ hused h => h.initiatorChangeSlot hused)
    (renewed_walkLaws hs .initiator credit session)

theorem slot_initiatorWalk (hs : DeviceLaws s) (n : SlotNo) :
    (initiatorWalk credit session s).slot n = (s.slot n).initiatorChanged :=
  slot_moveEach_usedSlots (s := renewed .initiator credit session s) initiatorChangeSlot_moves
    (renewed_walkLaws hs .initiator credit session).canonical
    fun hfree => by simp only [Slot.initiatorChanged, hfree]

theorem initiator_frame {u c : State} (hc : c = { renewed .initiator credit session s with
      slots := c.slots, gates := c.gates, ladder := c.ladder, answers := c.answers, tagIndex := c.tagIndex
      sources := c.sources, domains := c.domains, freePages := c.freePages, txPages := c.txPages
      compPages := c.compPages }) (hu : u = c) : u = { s with
    initPort := u.initPort, storedSession := u.storedSession, slots := u.slots, gates := u.gates, ladder := u.ladder
    answers := u.answers, tagIndex := u.tagIndex, sources := u.sources, domains := u.domains
    freePages := u.freePages, txPages := u.txPages, compPages := u.compPages } := by
  subst hu
  generalize u.slots = a, u.gates = b, u.ladder = d, u.answers = e, u.tagIndex = h, u.sources = i, u.domains = j,
    u.freePages = k, u.txPages = l, u.compPages = m at hc
  subst hc
  rfl

theorem initiatorMoved_cleared (hs : DeviceLaws s) (credit session : Byte) :
    InitiatorMoved credit session s (clearCollections (initiatorWalk credit session s)) where
  port := by
    rw [(initiatorWalk_laws hs).walked.clearCollections_frame]
    rfl
  stored := by
    rw [(initiatorWalk_laws hs).walked.clearCollections_frame]
    rfl
  freed n hstate := by
    rw [slot_clearCollections, slot_initiatorWalk hs]
    rcases hstate with hstate | hstate | hstate | ⟨hstate, hnone⟩
    · simp only [Slot.initiatorChanged, hstate]
    · simp only [Slot.initiatorChanged, hstate]
    · simp only [Slot.initiatorChanged, hstate]
    · simp [Slot.initiatorChanged, hstate, hnone]
  lapsed n hstate := by
    rw [slot_clearCollections, slot_initiatorWalk hs]
    rcases hstate with hstate | ⟨hstate, hexpected⟩
    · simp only [Slot.initiatorChanged, hstate, Slot.lapsedRecord]
    · simp only [Slot.initiatorChanged, hstate, hexpected, if_true, Slot.lapsedRecord]
  kept n hstate := by
    rw [slot_clearCollections, slot_initiatorWalk hs]
    rcases hstate with hstate | hstate <;> simp only [Slot.initiatorChanged, hstate]
  gates g := gate_cleared (initiatorWalk_laws hs) g
  levels _ := rfl
  answers := rfl
  tags _ _ := rfl
  sources i := source_cleared (initiatorWalk_laws hs) i
  domains d := domain_cleared (initiatorWalk_laws hs) d
  pages := ⟨rfl, rfl, rfl⟩
  frame := initiator_frame (initiatorWalk_laws (credit := credit) (session := session) hs).walked.clearCollections_frame rfl

/-- The give-backs go by the slots as they were before the change. -/
theorem renewed_giveBackGates (hs : DeviceLaws s) :
    giveBackGates (renewed .initiator credit session s) = initiatorGiveBacks s :=
  giveBackGates_eq (renewed_walkLaws hs .initiator credit session).canonical

/-- The queues that an initiator session change empties (R171). -/
def emptiedQueues (s : State) : State :=
  { s with brief := [], reports := [], batches := [], engine := .idle, runCount := 0 }

theorem port_emptiedQueues (s : State) (p : PortId) : (emptiedQueues s).port p = s.port p := by
  cases p <;> rfl

theorem sessionChange_initiator (hs : DeviceLaws s) : sessionChange .initiator credit session (announceOwn s) =
    completeDrains (emptiedQueues (giveEach .noSender .deferred (initiatorGiveBacks s)
      (clearCollections (initiatorWalk credit session s)))) := by
  rw [← renewed_giveBackGates (credit := credit) (session := session) hs]
  rfl

end Sys2Proof.Machine

namespace Sys2Proof.Proofs

open Sys2Proof.Machine

/-- Settles O7: the port is renewed, each slot in use moves once, the gives and the ends of drains follow in their order, and
LINK CHANGE is raised last. -/
theorem initiatorSessionChange : Obligations.InitiatorSessionChange := by
  intro credit session s hs htraining hannounced hcredit hnew
  have hmoved := initiatorMoved_cleared hs credit session
  have hexec := exec_up_changes (p := .initiator) htraining hannounced hcredit hnew
  rw [sessionChange_initiator hs] at hexec
  generalize clearCollections (initiatorWalk credit session s) = u at hexec hmoved
  generalize initiatorGiveBacks s = gs at hexec ⊢
  have hgave := giveEach_gave u .deferred gs
  obtain ⟨d0, d1, d2, h0, h1, h2, h3⟩ := completeDrains_checked (emptiedQueues (giveEach .noSender .deferred gs u))
  refine ⟨u, _, d0, d1, d2, _, _, hexec, hmoved, hgave, h0, h1, h2, h3,
    raiseLinkChange_renewed (p := .initiator) (s := s) (credit := credit) ?_⟩
  rw [port_completeDrains, port_emptiedQueues, port_giveEach]
  exact hmoved.port

end Sys2Proof.Proofs

/-! The service session change (R90, R91): the move of each slot, what the walk keeps and counts, and the obligation that
states it. -/

namespace Sys2Proof.Machine

variable {s t u : State} {n m : SlotNo} {ns : List SlotNo} {credit session : Byte}

/-! ## The move of one slot -/

/-- The table of R90. -/
def Slot.serviceChanged (x : Slot) : Slot :=
  match x.state with
  | .free | .held | .laddered | .answering => x
  | .serving => { x with
      state := .answering, answer := some (.close .serviceReset), holdDeadline := none, serviceDeadline := none }
  | .lapsing => { x with completionExpected := false, giveOnCompletion := false }
  | .lapsed => Slot.reset

theorem serviceChangeSlot_of_serving (hstate : (s.slot n).state = .serving) : serviceChangeSlot n s =
    lowerActive (s.slot n).domain (owe .answering (.close .serviceReset) n s) := by
  simp only [serviceChangeSlot, hstate]

theorem serviceChangeSlot_of_lapsed (hstate : (s.slot n).state = .lapsed) : serviceChangeSlot n s = freeSlot n s := by
  simp only [serviceChangeSlot, hstate]

theorem serviceChangeSlot_of_lapsing (hstate : (s.slot n).state = .lapsing) : serviceChangeSlot n s =
    s.setSlot n { s.slot n with completionExpected := false, giveOnCompletion := false } := by
  simp only [serviceChangeSlot, hstate, modifySlot_eq]

theorem serviceChangeSlot_of_kept (hserving : (s.slot n).state ≠ .serving) (hlapsing : (s.slot n).state ≠ .lapsing)
    (hlapsed : (s.slot n).state ≠ .lapsed) : serviceChangeSlot n s = s := by
  unfold serviceChangeSlot
  split
  case h_4 hstate => exact absurd hstate hserving
  case h_6 hstate => exact absurd hstate hlapsing
  case h_7 hstate => exact absurd hstate hlapsed
  all_goals rfl

theorem serviceChanged_of_kept {x : Slot} (hserving : x.state ≠ .serving) (hlapsing : x.state ≠ .lapsing)
    (hlapsed : x.state ≠ .lapsed) : x.serviceChanged = x := by
  unfold Slot.serviceChanged
  split
  case h_5 hstate => exact absurd hstate hserving
  case h_6 hstate => exact absurd hstate hlapsing
  case h_7 hstate => exact absurd hstate hlapsed
  all_goals rfl

/-- A slot is SERVING, LAPSING or LAPSED, or a service session change leaves it. -/
theorem serviceChange_cases (x : Slot) : x.state = .serving ∨ x.state = .lapsing ∨ x.state = .lapsed ∨
    (x.state ≠ .serving ∧ x.state ≠ .lapsing ∧ x.state ≠ .lapsed) := by
  tauto

theorem serviceChangeSlot_moves : MovesAlone Slot.serviceChanged serviceChangeSlot := by
  intro n s m
  rcases serviceChange_cases (s.slot n) with hstate | hstate | hstate | ⟨hserving, hlapsing, hlapsed⟩
  · rw [serviceChangeSlot_of_serving hstate]
    simp only [Slot.serviceChanged, hstate]
    exact slot_owe s .answering (.close .serviceReset) n m
  · rw [serviceChangeSlot_of_lapsing hstate, State.slot_setSlot]
    simp only [Slot.serviceChanged, hstate]
  · rw [serviceChangeSlot_of_lapsed hstate, slot_freeSlot]
    simp only [Slot.serviceChanged, hstate]
  · rw [serviceChangeSlot_of_kept hserving hlapsing hlapsed, serviceChanged_of_kept hserving hlapsing hlapsed]
    exact slot_same rfl m

/-! ## What the walk keeps -/

/-- t is s after moves of a service session change: of the gates only the reference counts change. -/
structure ServiceWalked (s t : State) : Prop where
  gates : ∀ g, ∃ r, t.gate g = { s.gate g with references := r }
  frame : t = { s with slots := t.slots, gates := t.gates, answers := t.answers, domains := t.domains }

theorem ServiceWalked.refl (s : State) : ServiceWalked s s := ⟨fun _ => ⟨_, rfl⟩, rfl⟩

theorem ServiceWalked.trans (first : ServiceWalked s t) (second : ServiceWalked t u) : ServiceWalked s u where
  gates g := by
    obtain ⟨r, hg⟩ := first.gates g
    obtain ⟨r', hg'⟩ := second.gates g
    rw [hg] at hg'
    exact ⟨r', hg'⟩
  frame := by
    have hfirst := first.frame
    have hsecond := second.frame
    generalize u.slots = a, u.gates = b, u.answers = c, u.domains = d at hsecond
    subst hsecond
    generalize t.slots = a', t.gates = b', t.answers = c', t.domains = d' at hfirst
    subst hfirst
    rfl

theorem serviceWalked_dropClaim (g : GateNo) (s : State) : ServiceWalked s (dropClaim g s) where
  gates h := by
    by_cases hg : h = g
    · subst hg
      exact ⟨_, State.gate_setGate_same ..⟩
    · exact ⟨_, by simp [dropClaim, State.gate_setGate, hg]; rfl⟩
  frame := rfl

theorem serviceWalked_setSlot (n : SlotNo) (x : Slot) (s : State) : ServiceWalked s (s.setSlot n x) :=
  ⟨fun _ => ⟨_, rfl⟩, rfl⟩

theorem serviceWalked_owe (st : SlotState) (a : Answer) (n : SlotNo) (d : DomainNo) (s : State) :
    ServiceWalked s (lowerActive d (owe st a n s)) :=
  ⟨fun _ => ⟨_, rfl⟩, rfl⟩

/-- A LAPSED slot holds no pages and no answer, so its freeing gives up its claims alone. -/
theorem freeSlot_of_lapsed (hshaped : (s.slot n).Shaped) (hstate : (s.slot n).state = .lapsed) : freeSlot n s =
    (dropClaim (s.slot n).giveGate (dropClaim (s.slot n).takeGate s)).setSlot n Slot.reset := by
  have hpayload : (s.slot n).payload = [] := by
    by_contra hsome
    rcases hshaped.payload hsome with hother | hother <;> simp [hstate] at hother
  have hpages : (s.slot n).pages = 0 := by
    rw [hshaped.pages, hpayload]
    rfl
  have hanswer : (s.slot n).answer = none := by
    by_contra hsome
    rcases hshaped.answer.mp hsome with hother | hother <;> simp [hstate] at hother
  simp only [freeSlot, leaveCollection, endIndex, endActive, hstate, SlotState.indexed, SlotState.counted, hpages, hanswer]
  rfl

theorem serviceWalked_serviceChangeSlot (hshaped : (s.slot n).Shaped) : ServiceWalked s (serviceChangeSlot n s) := by
  rcases serviceChange_cases (s.slot n) with hstate | hstate | hstate | ⟨hserving, hlapsing, hlapsed⟩
  · rw [serviceChangeSlot_of_serving hstate]
    exact serviceWalked_owe ..
  · rw [serviceChangeSlot_of_lapsing hstate]
    exact serviceWalked_setSlot ..
  · rw [serviceChangeSlot_of_lapsed hstate, freeSlot_of_lapsed hshaped hstate]
    exact (serviceWalked_dropClaim _ s).trans <| (serviceWalked_dropClaim _ _).trans <| serviceWalked_setSlot ..
  · rw [serviceChangeSlot_of_kept hserving hlapsing hlapsed]
    exact .refl s

theorem WalkLaws.serviceChangeSlot (h : WalkLaws s t) (hused : (t.slot n).state ≠ .free) :
    WalkLaws s (serviceChangeSlot n t) := by
  rcases serviceChange_cases (t.slot n) with hstate | hstate | hstate | ⟨hserving, hlapsing, hlapsed⟩
  · rw [serviceChangeSlot_of_serving hstate]
    have hclaims := claimsCounted_setSlot (x := { t.slot n with
      state := .answering, answer := some (.close .serviceReset), holdDeadline := none, serviceDeadline := none })
      h.canonical h.claims hused nofun rfl rfl
    exact ⟨((Adjusted.refl.owe _ _ n).setDomain _ _).canonical h.canonical, hclaims,
      h.walked.trans ((walked_owe _ _ n t).trans (walked_lowerActive _ _))⟩
  · rw [serviceChangeSlot_of_lapsing hstate]
    exact h.setSlot hused hused rfl rfl
  · rw [serviceChangeSlot_of_lapsed hstate]
    exact h.freeSlot hused
  · rw [serviceChangeSlot_of_kept hserving hlapsing hlapsed]
    exact h

/-! ## What the walk counts -/

theorem answers_serviceChangeSlot (n : SlotNo) (s : State) : (serviceChangeSlot n s).answers =
    s.answers ++ if (s.slot n).state = .serving then [n] else [] := by
  rcases serviceChange_cases (s.slot n) with hstate | hstate | hstate | ⟨hserving, hlapsing, hlapsed⟩
  · rw [serviceChangeSlot_of_serving hstate, if_pos hstate]
    rfl
  · rw [serviceChangeSlot_of_lapsing hstate, if_neg (by simp [hstate]), List.append_nil]
    rfl
  · rw [serviceChangeSlot_of_lapsed hstate, (freeSlot_freed s n).answers, if_neg (by simp [hstate]),
      if_neg (by simp [hstate]), List.append_nil]
  · rw [serviceChangeSlot_of_kept hserving hlapsing hlapsed, if_neg hserving, List.append_nil]

theorem domain_serviceChangeSlot (n : SlotNo) (s : State) (d : DomainNo) : (serviceChangeSlot n s).domain d =
    { s.domain d with active :=
        (s.domain d).active - if (s.slot n).state = .serving ∧ (s.slot n).domain = d then 1 else 0 } := by
  rcases serviceChange_cases (s.slot n) with hstate | hstate | hstate | ⟨hserving, hlapsing, hlapsed⟩
  · rw [serviceChangeSlot_of_serving hstate]
    by_cases hd : d = (s.slot n).domain
    · subst hd
      simp [lowerActive, hstate]
    · simp [lowerActive, State.domain_setDomain, hd, Ne.symm hd]
  · simp [serviceChangeSlot_of_lapsing hstate, hstate]
  · rw [serviceChangeSlot_of_lapsed hstate, (freeSlot_freed s n).domains]
    simp [hstate, SlotState.counted]
  · simp [serviceChangeSlot_of_kept hserving hlapsing hlapsed, hserving]

/-- The other slots of a walk are after its first step as they were before. -/
theorem filter_after_step {p : Slot → Bool} (hnew : n ∉ ns) :
    ns.filter (fun m => p ((serviceChangeSlot n s).slot m)) = ns.filter (fun m => p (s.slot m)) :=
  List.filter_congr fun m hm => by
    have hother : m ≠ n := fun heq => hnew (heq ▸ hm)
    rw [serviceChangeSlot_moves.other hother]

theorem answers_serviceWalk (hns : ns.Nodup) : (moveEach serviceChangeSlot ns s).answers =
    s.answers ++ ns.filter (fun n => (s.slot n).state = .serving) := by
  induction ns generalizing s with
  | nil => simp [moveEach]
  | cons n ns ih =>
    obtain ⟨hnew, hrest⟩ := List.nodup_cons.mp hns
    rw [moveEach, ih hrest, filter_after_step (p := fun x => x.state = .serving) hnew, answers_serviceChangeSlot,
      List.append_assoc, List.filter_cons]
    split <;> simp_all

theorem domain_serviceWalk (hns : ns.Nodup) (d : DomainNo) : (moveEach serviceChangeSlot ns s).domain d =
    { s.domain d with active :=
        (s.domain d).active - (ns.filter (fun n => (s.slot n).state = .serving ∧ (s.slot n).domain = d)).length } := by
  induction ns generalizing s with
  | nil => rfl
  | cons n ns ih =>
    obtain ⟨hnew, hrest⟩ := List.nodup_cons.mp hns
    rw [moveEach, ih hrest, filter_after_step (p := fun x => x.state = .serving ∧ x.domain = d) hnew,
      domain_serviceChangeSlot, List.filter_cons]
    simp only [Nat.sub_sub, decide_eq_true_eq]
    split
    · rw [List.length_cons, Nat.add_comm]
    · rw [Nat.zero_add]

/-- A selection of slots in use is the same among the slots in use and among all. -/
theorem filter_usedSlots (hs : TablesCanonical s) {p : SlotNo → Bool} (hp : ∀ n, p n = true → (s.slot n).state ≠ .free) :
    s.usedSlots.filter p = everySlot.filter p := by
  rw [usedSlots_eq hs, List.filter_filter]
  refine List.filter_congr fun n _ => ?_
  cases hn : p n with
  | false => rfl
  | true => simp [hp n hn]

/-! ## The whole change -/

/-- The state after the walk of a service session change. -/
def serviceWalk (credit session : Byte) (s : State) : State :=
  moveEach serviceChangeSlot s.usedSlots (renewed .service credit session s)

theorem serviceWalk_keeps (hs : DeviceLaws s) (credit session : Byte) :
    WalkLaws (renewed .service credit session s) (serviceWalk credit session s) ∧
      ServiceWalked (renewed .service credit session s) (serviceWalk credit session s) :=
  moveEach_keeps (P := fun x => x.state ≠ .free ∧ x.Shaped)
    (Q := fun t => WalkLaws (renewed .service credit session s) t ∧ ServiceWalked (renewed .service credit session s) t)
    serviceChangeSlot_moves
    (fun _ _ ⟨hused, hshaped⟩ ⟨hlaws, hkept⟩ =>
      ⟨hlaws.serviceChangeSlot hused, hkept.trans (serviceWalked_serviceChangeSlot hshaped)⟩)
    (nodup_usedSlots hs.canonical) (fun n hn => ⟨(mem_usedSlots hs.canonical).mp hn, hs.shaped n⟩)
    ⟨renewed_walkLaws hs .service credit session, .refl _⟩

theorem slot_serviceWalk (hs : DeviceLaws s) (n : SlotNo) :
    (serviceWalk credit session s).slot n = (s.slot n).serviceChanged :=
  slot_moveEach_usedSlots (s := renewed .service credit session s) serviceChangeSlot_moves
    (renewed_walkLaws hs .service credit session).canonical
    fun hfree => by simp only [Slot.serviceChanged, hfree]

theorem service_frame (h : ServiceWalked (renewed .service credit session s) u) : u = { s with
    svcPort := u.svcPort, storedSession := u.storedSession, slots := u.slots, gates := u.gates, answers := u.answers
    domains := u.domains, freePages := u.freePages, txPages := u.txPages, compPages := u.compPages } := by
  have hframe := h.frame
  generalize u.slots = a, u.gates = b, u.answers = c, u.domains = d at hframe
  subst hframe
  rfl

theorem service_kept (h : ServiceWalked (renewed .service credit session s) u) :
    u.svcPort = s.svcPort.newSession credit session s.ownSession ∧ u.storedSession = s.ownSession ∧
      u.freePages = s.freePages ∧ u.txPages = s.txPages ∧ u.compPages = s.compPages := by
  rw [h.frame]
  exact ⟨rfl, rfl, rfl, rfl, rfl⟩

theorem serviceMoved_walk (hs : DeviceLaws s) (credit session : Byte) :
    ServiceMoved credit session s (serviceWalk credit session s) := by
  obtain ⟨hlaws, hkept⟩ := serviceWalk_keeps hs credit session
  obtain ⟨hport, hstored, hpages⟩ := service_kept hkept
  exact {
    port := hport
    stored := hstored
    serving := fun n hstate => by
      rw [slot_serviceWalk hs]
      simp only [Slot.serviceChanged, hstate]
    lapsing := fun n hstate => by
      rw [slot_serviceWalk hs]
      simp only [Slot.serviceChanged, hstate]
    lapsed := fun n hstate => by
      rw [slot_serviceWalk hs]
      simp only [Slot.serviceChanged, hstate]
    others := fun n hserving hlapsing hlapsed => by
      rw [slot_serviceWalk hs, serviceChanged_of_kept hserving hlapsing hlapsed]
    answers := by
      rw [← filter_usedSlots hs.canonical fun n hn => by simp [of_decide_eq_true hn]]
      exact answers_serviceWalk (s := renewed .service credit session s) (nodup_usedSlots hs.canonical)
    gates := fun g => by
      obtain ⟨r, hgate⟩ := hkept.gates g
      have hclaims := hlaws.claims g
      rw [hgate] at hclaims
      rw [hgate]
      exact congrArg (fun r => { s.gate g with references := r }) hclaims
    domains := fun d => by
      rw [← filter_usedSlots hs.canonical fun n hn => by simp [(of_decide_eq_true hn).1]]
      exact domain_serviceWalk (s := renewed .service credit session s) (nodup_usedSlots hs.canonical) d
    frame := service_frame hkept
    pages := hpages }

theorem sessionChange_service (hs : DeviceLaws s) : sessionChange .service credit session (announceOwn s) =
    completeDrains (giveEach .noSender .deferred (serviceGives s) (serviceWalk credit session s)) := by
  rw [← serviceGiveGates_eq hs.canonical]
  rfl

end Sys2Proof.Machine

namespace Sys2Proof.Proofs

open Sys2Proof.Machine

/-- Settles O8: the port is renewed, each slot in use moves once, the gives and the ends of drains follow in their order, and
LINK CHANGE is raised last. -/
theorem serviceSessionChange : Obligations.ServiceSessionChange := by
  intro credit session s hs htraining hannounced hcredit hnew
  have hmoved := serviceMoved_walk hs credit session
  have hexec := exec_up_changes (p := .service) htraining hannounced hcredit hnew
  rw [sessionChange_service hs] at hexec
  generalize serviceWalk credit session s = u at hexec hmoved
  generalize serviceGives s = gs at hexec ⊢
  have hgave := giveEach_gave u .deferred gs
  obtain ⟨d0, d1, d2, h0, h1, h2, h3⟩ := completeDrains_checked (giveEach .noSender .deferred gs u)
  refine ⟨u, _, d0, d1, d2, _, _, hexec, hmoved, hgave, h0, h1, h2, h3,
    raiseLinkChange_renewed (p := .service) (s := s) (credit := credit) ?_⟩
  rw [port_completeDrains, port_giveEach]
  exact hmoved.port

end Sys2Proof.Proofs
